-- ==== Sys2Proof/Word.lean ====
section
/-! DEFINITION. The word types of the bridge, the five encoding formats of spec/30_encoding.md, and the names
under which a word is rejected by the decoder. -/

namespace Sys2Proof

/-- A 32-bit data word: every DMI access and every SWD data phase is exactly this wide (R72). -/
abbrev Word := BitVec 32

/-- The JTAG instruction code held in `ir` (R22, R90). -/
abbrev IrCode := BitVec 5

/-- The shift register shared by the IR path and every DR path (R23: 42 bits). -/
abbrev ShiftReg := BitVec 42

/-- A DMI address: it counts 32-bit words (R61). -/
abbrev DmiAddr := BitVec 8

/-- The SWD request header (R92). -/
abbrev HeaderByte := BitVec 8

/-- The SWD acknowledge, first sampled bit in bit 0 (R93). -/
abbrev Ack := BitVec 3

/-- A register address A[3:2] of the DP or the AP: bit 0 is A[2], bit 1 is A[3] (R224). -/
abbrev RegAddr := BitVec 2

/-- The 46 SWCLK cycles of one packet, cycle k in bit k (R94). -/
abbrev PacketWord := BitVec 46

/-- The five formats in which the opcode table writes its rows (R90 to R94). -/
inductive Format where
  | ir
  | dmiDr
  | header
  | ack
  | packet
deriving DecidableEq, Repr

/-- The number of bits of a word of each format (R90 to R94). -/
def Format.width : Format → Nat
  | .ir => 5
  | .dmiDr => 42
  | .header => 8
  | .ack => 3
  | .packet => 46

/-- Why the decoder rejects a word. -/
inductive DecodeError where
  /-- A bit above the format's width is set. -/
  | overlong
  /-- Header bit 0, the start bit, is 0 (R92). -/
  | badStart
  /-- Header bit 6, the stop bit, is 1 (R92). -/
  | badStop
  /-- Header bit 7, the park bit, is 0 (R92). -/
  | badPark
  /-- Header bit 5 is not the parity of bits 4:1 (R92). -/
  | badHeaderParity
  /-- The parity cycle of a driven data phase is not the parity of the 32 data bits (R225). -/
  | badDataParity
deriving DecidableEq, Repr

end Sys2Proof
end

