-- ==== Sys2Proof/Config.lean ====
section
/-! DEFINITION. What the creator of an instance fixes (R10) and the free values: constants with no body, so that
nothing in Lean can evaluate them and a claim holds for every value of them. -/

namespace Sys2Proof

/-- The constructor argument `idcode` (R10, R21): 32 bits, any value. Log entry 2. -/
opaque Config.idcode : Word

/-- The constructor argument `targetsel` (R10, R30); 0 means that no TARGETSEL is issued. Log entry 2. -/
opaque Config.targetsel : Word

/-- The constructor argument `apsel` (R10, R30), 0 to 255. Log entry 2. -/
opaque Config.apsel : BitVec 8

/-- FREE VALUE: the level sampled from SWDIO when the list of the target's answers has run out (R221, U11, D18),
for each draw. Log entry 6. -/
opaque Config.swdioFree : Nat → Bool

/-- FREE VALUE: what a failed `DmiRead` returns (R305, U10, D11), for each draw. Log entry 7. -/
opaque Config.failedReadData : Nat → Word

/-- FREE VALUE: what the environment's `dmi_read` returns when the list of its answers has run out (R202, R208),
for each draw. Log entry 8. -/
opaque Config.upcallData : Nat → Word

end Sys2Proof
end

