-- ==== Sys2Proof/Machine/Params.lean ====
section
/-! DEFINITION. The numbers of the block: those the source fixes (R9), and the named parameters of R11 at the values
this spec uses for them (D14, log entry 3) and at construction (D1 to D3, log entry 4). -/

namespace Sys2Proof.Machine

/-- Width of the instruction register (R9). -/
def wIr : Nat := 5

/-- Width of a DMI address (R9). -/
def abits : Nat := 8

/-- Width of the DMI data register, ABITS + 34 (R9). -/
def wDmi : Nat := abits + 34

/-! The four defined instruction codes (R9, R100). -/

def irBypass : IrCode := 0x00#5
def irIdcode : IrCode := 0x01#5
def irDtmcs : IrCode := 0x10#5
def irDmi : IrCode := 0x11#5

/-- DTMCS as it is captured: VERSION 1, ABITS 8, IDLE_HINT 0 (R36, R168). -/
def dtmcsValue : Word := 1#32 ||| (8#32 <<< 4) ||| (0#32 <<< 12)

/-- The bound of the power-up poll, in reads (R9, R268). -/
def pwrupAckTimeout : Nat := 10000

/-- ABORT with all sticky errors cleared (R9, R265). -/
def abortClearAll : Word := 0x1E#32

/-- The AP identification test (R9, R269). -/
def idrMask : Word := 0x1E00F#32
def idrExpected : Word := 0x10002#32

/-! Register addresses A[3:2] (R11). PRESUMED: only A_TARGETSEL is the source's; log entry 3, unsafe. -/

def aDpidr : RegAddr := 0b00#2
def aAbort : RegAddr := 0b00#2
def aCtrlstat : RegAddr := 0b01#2
def aSelect : RegAddr := 0b10#2
def aRdbuf : RegAddr := 0b11#2
def aTargetsel : RegAddr := 0b11#2
def aTar : RegAddr := 0b01#2
def aDrw : RegAddr := 0b11#2
def aIdr : RegAddr := 0b11#2

/-! Bank constants of SELECT (R11). PRESUMED for the IDR bank; log entry 3, unsafe. -/

def apBankCsw : Word := 0x00000000#32
def apBankIdr : Word := 0x000000F0#32

/-! CTRL/STAT bits (R11). PRESUMED; log entry 3, unsafe. -/

def csyspwrupreq : Word := 1#32 <<< 30
def cdbgpwrupreq : Word := 1#32 <<< 28
def orundetect : Word := 1#32 <<< 0
def csyspwrupack : Word := 1#32 <<< 31
def cdbgpwrupack : Word := 1#32 <<< 29

/-! Construction values the source does not state (R11, R43). DESIGN CHOICE, D1 to D3; log entry 4, unsafe. -/

def shifterInit : ShiftReg := 0#42
def dmiRdataInit : Word := 0#32
def tckInit : Bool := false
def tmsInit : Bool := false
def tdiInit : Bool := false
def tdoInit : Bool := false
def tarCacheInit : Word := 0#32
def tarCacheValidInit : Bool := false

/-- The 35 bytes of the link-down-up preamble, byte 0 first (R95). -/
def preambleBytes : List (BitVec 8) :=
  [0xFF#8, 0xFF#8, 0xFF#8, 0xFF#8, 0xFF#8, 0xFF#8, 0xFF#8, 0xBC#8, 0xE3#8, 0xFF#8, 0x92#8, 0xF3#8] ++
  [0x09#8, 0x62#8, 0x95#8, 0x2D#8, 0x85#8, 0x86#8, 0xE9#8, 0xAF#8, 0xDD#8, 0xE3#8, 0xA2#8, 0x0E#8] ++
  [0xBC#8, 0x19#8, 0xA0#8, 0x01#8, 0xFF#8, 0xFF#8, 0xFF#8, 0xFF#8, 0xFF#8, 0xFF#8, 0x03#8]

/-- How many of the preamble's bits are sent: 35 × 8 − 4 (R95, C1). -/
def preambleLength : Nat := 276

end Sys2Proof.Machine
end

