-- ==== Sys2Proof/Machine/Flags.lean ====
section
/-! DEFINITION. Every one-bit computation of the block (R177 h, i): the two parities, the ACK test, the power-up
test, the AP identification test. The block has no arithmetic flags (R177). -/

namespace Sys2Proof.Machine

/-- The exclusive or of all bits of `v` (R12). -/
def parity {w : Nat} (v : BitVec w) : Bool :=
  (List.range w).foldl (fun p i => p ^^ v.getLsbD i) false

/-- Header parity: APnDP ⊕ RnW ⊕ A[2] ⊕ A[3] (R92, R224). -/
def headerParity (apndp rnw : Bool) (a : RegAddr) : Bool :=
  apndp ^^ rnw ^^ a.getLsbD 0 ^^ a.getLsbD 1

/-- The one ACK value treated as success (R93). -/
def ackValueOk : Ack := 0b001#3

/-- The ACK decode: the value is compared with 0b001 (R226). -/
def ackIsOk (ack : Ack) : Bool := ack == ackValueOk

/-- The power-up test of a CTRL/STAT value: both acknowledge bits set, every other bit ignored (R40, R268). -/
def poweredUp (v : Word) : Bool :=
  (v &&& csyspwrupack) != 0#32 && (v &&& cdbgpwrupack) != 0#32

/-- The AP identification test: Mem-AP, APB2/APB3 (R40, R269). -/
def isMemAp (idr : Word) : Bool := (idr &&& idrMask) == idrExpected

end Sys2Proof.Machine
end

