-- ==== Sys2Proof/Machine/Operands.lean ====
section
/-! DEFINITION. Field and operand assembly (R97 to R99), the serial orders (R13, R67 to R69) and the DR length. -/

namespace Sys2Proof.Machine

/-- The bits of `v` in transmission order: bit 0 first (R13, R68). -/
def lsbFirst {w : Nat} (v : BitVec w) : List Bool :=
  (List.range w).map fun i => v.getLsbD i

/-- The number whose bit 0 is the first bit of the list (R69). -/
def natOfBits : List Bool → Nat
  | [] => 0
  | b :: bs => b.toNat + 2 * natOfBits bs

/-- Received bits packed least significant bit first (R69, R221). -/
def packLsb (w : Nat) (bits : List Bool) : BitVec w := BitVec.ofNat w (natOfBits bits)

/-- The ACK in the levels sampled in a transaction: the first three (R230, R231). -/
def ackOf (bits : List Bool) : Ack := packLsb 3 (bits.take 3)

/-- The data word in the levels sampled in a read: the 32 after the ACK (R230). -/
def dataOf (bits : List Bool) : Word := packLsb 32 ((bits.drop 3).take 32)

/-- One bit at bit 0 of a 42-bit value: `zext_42(tdi)` of R163 and R171. -/
def bitAtZero (b : Bool) : ShiftReg := (BitVec.ofBool b).setWidth 42

/-- `mask(L)` of R171. -/
def shiftMask (len : Nat) : ShiftReg := (1#42 <<< len) - 1#42

/-- `dr_len(ir)` (R96, R160). -/
def drLen (ir : IrCode) : Nat :=
  if ir = irIdcode then 32
  else if ir = irDtmcs then 32
  else if ir = irDmi then wDmi
  else 1

/-! The fields of the DMI data register (R97). -/

def dmiOp (v : ShiftReg) : BitVec 2 := v.extractLsb' 0 2
def dmiData (v : ShiftReg) : Word := v.extractLsb' 2 32
def dmiAddr (v : ShiftReg) : DmiAddr := v.extractLsb' 34 8

/-- The 42-bit DMI value with these three fields (R91). -/
def dmiWord (addr : DmiAddr) (data : Word) (op : BitVec 2) : ShiftReg :=
  (addr.setWidth 42 <<< 34) ||| (data.setWidth 42 <<< 2) ||| op.setWidth 42

/-! What CAPTURE-DR and CAPTURE-IR load (R98). -/

def captureWord (v : Word) : ShiftReg := v.setWidth 42
def captureDmi (rdata : Word) : ShiftReg := rdata.setWidth 42 <<< 2
def captureIrCode (ir : IrCode) : ShiftReg := ir.setWidth 42

/-- The Mem-AP byte address of a DMI address (R99, R300). -/
def byteAddr (addr : DmiAddr) : Word := addr.setWidth 32 <<< 2

/-- The value written to SELECT for a bank of the configured AP (R99). -/
def selectValue (bank : Word) (apsel : BitVec 8) : Word := bank ||| (apsel.setWidth 32 <<< 24)

/-- The word written to CTRL/STAT in step 7 (R40, R267). -/
def powerUpRequest : Word := csyspwrupreq ||| cdbgpwrupreq ||| orundetect

/-- A bit at a place of the header byte. -/
def headerBit (b : Bool) (place : Nat) : HeaderByte := (BitVec.ofBool b).setWidth 8 <<< place

/-- `header(APnDP, RnW, A)` (R92, R224). -/
def header (apndp rnw : Bool) (a : RegAddr) : HeaderByte :=
  0x81#8 ||| headerBit apndp 1 ||| headerBit rnw 2 ||| headerBit (a.getLsbD 0) 3 ||| headerBit (a.getLsbD 1) 4
    ||| headerBit (headerParity apndp rnw a) 5

/-- The preamble in transmission order: 35 bytes, bit 0 first, less the last four bits (R95, R262). -/
def preambleBits : List Bool := (preambleBytes.flatMap lsbFirst).take preambleLength

end Sys2Proof.Machine
end

