-- ==== Sys2Proof/Syntax.lean ====
section
/-! DEFINITION. The instructions: one constructor for each row of spec/opcode_table.json, in the table's order. -/

namespace Sys2Proof

/-- The 41 rows of the opcode table. The operands are the bits that a row leaves to its user; the cycles of a
packet that the block samples or does not drive are the target's and no operand (log entry 12). -/
inductive Instr where
  -- JTAG instruction codes (R100)
  | bypass
  | idcode
  | dtmcs
  | dmi
  /-- Codes 0x02 to 0x03; `low` is the code's free bit. -/
  | undef0203 (low : BitVec 1)
  | undef0407 (low : BitVec 2)
  | undef080F (low : BitVec 3)
  | undef1213 (low : BitVec 1)
  | undef1417 (low : BitVec 2)
  | undef181F (low : BitVec 3)
  -- DMI operations (R101)
  | dmiNop (addr : DmiAddr) (data : Word)
  | dmiRead (addr : DmiAddr) (data : Word)
  | dmiWrite (addr : DmiAddr) (data : Word)
  | dmiReserved (addr : DmiAddr) (data : Word)
  -- SWD request headers (R102)
  | dpAbortWr
  | dpCtrlstatWr
  | dpSelectWr
  | dpTargetselWr
  | dpDpidrRd
  | dpCtrlstatRd
  | hdrDpRdA2
  | dpRdbufRd
  | hdrApWrA0
  | apTarWr
  | hdrApWrA2
  | apDrwWr
  | hdrApRdA0
  | hdrApRdA1
  | hdrApRdA2
  | apIdrDrwRd
  -- SWD acknowledges (R93)
  | ackOk
  | ackWait
  | ackFault
  | ackDisconnected
  | ack000
  | ack011
  | ack101
  | ack110
  -- SWD packets (R94)
  | swdReadPacket (apndp : Bool) (a : RegAddr)
  | swdWritePacket (apndp : Bool) (a : RegAddr) (data : Word)
  | swdTargetselPacket (data : Word)
deriving DecidableEq, Repr

end Sys2Proof
end

