-- ==== Sys2Proof/WellFormed.lean ====
section
/-! DEFINITION. Which terms of Instr have an encoding of their own. -/

namespace Sys2Proof

/-- A DP write at A[3:2] = 0b11 is the TARGETSEL packet (R232), so the write packet has no such form; every other
operand has the width of its field and is admitted at every value. -/
def Instr.wellFormed : Instr → Bool
  | .swdWritePacket apndp a _ => apndp || a != 0b11#2
  | .bypass | .idcode | .dtmcs | .dmi | .undef0203 _ | .undef0407 _ | .undef080F _ | .undef1213 _
  | .undef1417 _ | .undef181F _ | .dmiNop _ _ | .dmiRead _ _ | .dmiWrite _ _ | .dmiReserved _ _ | .dpAbortWr
  | .dpCtrlstatWr | .dpSelectWr | .dpTargetselWr | .dpDpidrRd | .dpCtrlstatRd | .hdrDpRdA2 | .dpRdbufRd
  | .hdrApWrA0 | .apTarWr | .hdrApWrA2 | .apDrwWr | .hdrApRdA0 | .hdrApRdA1 | .hdrApRdA2 | .apIdrDrwRd | .ackOk
  | .ackWait | .ackFault | .ackDisconnected | .ack000 | .ack011 | .ack101 | .ack110 | .swdReadPacket _ _
  | .swdTargetselPacket _ => true

/-- `i` has an encoding of its own. -/
abbrev Instr.WellFormed (i : Instr) : Prop := i.wellFormed = true

end Sys2Proof
end

