-- ==== Sys2Proof/Decode.lean ====
section
/-! DEFINITION. The decoder of the five formats (R90 to R94, R100 to R102), total on any bits and rejecting by name,
and the encoder written from the same tables. -/

namespace Sys2Proof

open Sys2Proof.Machine

/-- The instruction of an `ir` value: the mask and match columns of the ten IR rows (R100); no code traps (R103). -/
def decodeIr (v : IrCode) : Instr :=
  if v &&& 0x1F#5 = 0x00#5 then .bypass
  else if v &&& 0x1F#5 = 0x01#5 then .idcode
  else if v &&& 0x1F#5 = 0x10#5 then .dtmcs
  else if v &&& 0x1F#5 = 0x11#5 then .dmi
  else if v &&& 0x1E#5 = 0x02#5 then .undef0203 (v.extractLsb' 0 1)
  else if v &&& 0x1C#5 = 0x04#5 then .undef0407 (v.extractLsb' 0 2)
  else if v &&& 0x18#5 = 0x08#5 then .undef080F (v.extractLsb' 0 3)
  else if v &&& 0x1E#5 = 0x12#5 then .undef1213 (v.extractLsb' 0 1)
  else if v &&& 0x1C#5 = 0x14#5 then .undef1417 (v.extractLsb' 0 2)
  else .undef181F (v.extractLsb' 0 3)

/-- The DMI operation in the 42-bit shift register (R97, R101, R200). -/
def decodeDmi (v : ShiftReg) : Instr :=
  if dmiOp v = 0#2 then .dmiNop (dmiAddr v) (dmiData v)
  else if dmiOp v = 1#2 then .dmiRead (dmiAddr v) (dmiData v)
  else if dmiOp v = 2#2 then .dmiWrite (dmiAddr v) (dmiData v)
  else .dmiReserved (dmiAddr v) (dmiData v)

/-- The row of the header map with these fields (R102). -/
def headerRow (apndp rnw : Bool) (a : RegAddr) : Instr :=
  match apndp, rnw with
  | false, false =>
    if a = 0b00#2 then .dpAbortWr else if a = 0b01#2 then .dpCtrlstatWr
    else if a = 0b10#2 then .dpSelectWr else .dpTargetselWr
  | false, true =>
    if a = 0b00#2 then .dpDpidrRd else if a = 0b01#2 then .dpCtrlstatRd
    else if a = 0b10#2 then .hdrDpRdA2 else .dpRdbufRd
  | true, false =>
    if a = 0b00#2 then .hdrApWrA0 else if a = 0b01#2 then .apTarWr
    else if a = 0b10#2 then .hdrApWrA2 else .apDrwWr
  | true, true =>
    if a = 0b00#2 then .hdrApRdA0 else if a = 0b01#2 then .hdrApRdA1
    else if a = 0b10#2 then .hdrApRdA2 else .apIdrDrwRd

/-- The constant bits and the parity bit of a header byte, checked in the order of its bits (R92). -/
def headerError (h : HeaderByte) : Option DecodeError :=
  if h.getLsbD 0 = false then some .badStart
  else if h.getLsbD 6 = true then some .badStop
  else if h.getLsbD 7 = false then some .badPark
  else if h.getLsbD 5 ≠ headerParity (h.getLsbD 1) (h.getLsbD 2) (h.extractLsb' 3 2) then some .badHeaderParity
  else none

/-- The request that a header byte makes (R92, R102). -/
def decodeHeader (h : HeaderByte) : Except DecodeError Instr :=
  match headerError h with
  | some e => .error e
  | none => .ok (headerRow (h.getLsbD 1) (h.getLsbD 2) (h.extractLsb' 3 2))

/-- The acknowledge of three sampled bits (R93). -/
def decodeAck (k : Ack) : Instr :=
  if k = 0b001#3 then .ackOk
  else if k = 0b010#3 then .ackWait
  else if k = 0b100#3 then .ackFault
  else if k = 0b111#3 then .ackDisconnected
  else if k = 0b000#3 then .ack000
  else if k = 0b011#3 then .ack011
  else if k = 0b101#3 then .ack101
  else .ack110

/-- The packet of 46 cycles, cycle k in bit k (R94). Cycles 0 to 7 are the header; a driven data phase is cycles 13
to 44 and its parity cycle 45. The cycles that the block samples or does not drive decide nothing (log entry 12). -/
def decodePacket (w : PacketWord) : Except DecodeError Instr :=
  match headerError (w.extractLsb' 0 8) with
  | some e => .error e
  | none =>
    if w.getLsbD 2 = true then .ok (.swdReadPacket (w.getLsbD 1) (w.extractLsb' 3 2))
    else if w.getLsbD 45 ≠ parity (w.extractLsb' 13 32) then .error .badDataParity
    else if w.getLsbD 1 = false ∧ w.extractLsb' 3 2 = 0b11#2 then .ok (.swdTargetselPacket (w.extractLsb' 13 32))
    else .ok (.swdWritePacket (w.getLsbD 1) (w.extractLsb' 3 2) (w.extractLsb' 13 32))

/-- The decoder: a word of a format, its bits numbered from 0. A bit above the format's width is rejected. -/
def decode (f : Format) (w : PacketWord) : Except DecodeError Instr :=
  if 2 ^ f.width ≤ w.toNat then .error .overlong
  else
    match f with
    | .ir => .ok (decodeIr (w.setWidth 5))
    | .dmiDr => .ok (decodeDmi (w.setWidth 42))
    | .header => decodeHeader (w.setWidth 8)
    | .ack => .ok (decodeAck (w.setWidth 3))
    | .packet => decodePacket w

/-! The encoder. -/

/-- A driven data phase at its place in a packet: 32 bits in cycles 13 to 44, their parity in cycle 45 (R94). -/
def packetData (data : Word) : PacketWord :=
  (data.setWidth 46 <<< 13) ||| ((BitVec.ofBool (parity data)).setWidth 46 <<< 45)

/-- The word of an instruction with its format. The cycles of a packet that the block samples or does not drive are
written 0. -/
def encode : Instr → Format × PacketWord
  | .bypass => (.ir, 0x00#46)
  | .idcode => (.ir, 0x01#46)
  | .dtmcs => (.ir, 0x10#46)
  | .dmi => (.ir, 0x11#46)
  | .undef0203 k => (.ir, 0x02#46 ||| k.setWidth 46)
  | .undef0407 k => (.ir, 0x04#46 ||| k.setWidth 46)
  | .undef080F k => (.ir, 0x08#46 ||| k.setWidth 46)
  | .undef1213 k => (.ir, 0x12#46 ||| k.setWidth 46)
  | .undef1417 k => (.ir, 0x14#46 ||| k.setWidth 46)
  | .undef181F k => (.ir, 0x18#46 ||| k.setWidth 46)
  | .dmiNop addr data => (.dmiDr, (dmiWord addr data 0#2).setWidth 46)
  | .dmiRead addr data => (.dmiDr, (dmiWord addr data 1#2).setWidth 46)
  | .dmiWrite addr data => (.dmiDr, (dmiWord addr data 2#2).setWidth 46)
  | .dmiReserved addr data => (.dmiDr, (dmiWord addr data 3#2).setWidth 46)
  | .dpAbortWr => (.header, 0x81#46)
  | .dpCtrlstatWr => (.header, 0xA9#46)
  | .dpSelectWr => (.header, 0xB1#46)
  | .dpTargetselWr => (.header, 0x99#46)
  | .dpDpidrRd => (.header, 0xA5#46)
  | .dpCtrlstatRd => (.header, 0x8D#46)
  | .hdrDpRdA2 => (.header, 0x95#46)
  | .dpRdbufRd => (.header, 0xBD#46)
  | .hdrApWrA0 => (.header, 0xA3#46)
  | .apTarWr => (.header, 0x8B#46)
  | .hdrApWrA2 => (.header, 0x93#46)
  | .apDrwWr => (.header, 0xBB#46)
  | .hdrApRdA0 => (.header, 0x87#46)
  | .hdrApRdA1 => (.header, 0xAF#46)
  | .hdrApRdA2 => (.header, 0xB7#46)
  | .apIdrDrwRd => (.header, 0x9F#46)
  | .ackOk => (.ack, 0b001#46)
  | .ackWait => (.ack, 0b010#46)
  | .ackFault => (.ack, 0b100#46)
  | .ackDisconnected => (.ack, 0b111#46)
  | .ack000 => (.ack, 0b000#46)
  | .ack011 => (.ack, 0b011#46)
  | .ack101 => (.ack, 0b101#46)
  | .ack110 => (.ack, 0b110#46)
  | .swdReadPacket apndp a => (.packet, (header apndp true a).setWidth 46)
  | .swdWritePacket apndp a data => (.packet, (header apndp false a).setWidth 46 ||| packetData data)
  | .swdTargetselPacket data => (.packet, (header false false 0b11#2).setWidth 46 ||| packetData data)

/-! The table's own numbering. -/

/-- The format of a word of the table, from how many bits the table gives its row: the row's own width, or that
width in whole bytes. Two widths in whole bytes stand for more than one format, and the word decides between them:
8 bits below 0x20 are an `ir` value and else a header; 48 bits below 2^42 are a DMI value and else a packet (log
entry 13: an ACK is told from an `ir` value only by its own width 3). -/
def tableFormat (nbits w : Nat) : Option Format :=
  if nbits = 3 then some .ack
  else if nbits = 5 then some .ir
  else if nbits = 42 then some .dmiDr
  else if nbits = 46 then some .packet
  else if nbits = 8 then (if w < 0x20 then some .ir else some .header)
  else if nbits = 48 then (if w < 2 ^ 42 then some .dmiDr else some .packet)
  else none

/-- The instruction that the decoder reads from a word numbered as the opcode table numbers it. -/
def decodeTableWord (nbits w : Nat) : Option Instr :=
  match tableFormat nbits w with
  | none => none
  | some f =>
    if 2 ^ f.width ≤ w then none
    else (decode f (BitVec.ofNat 46 w)).toOption

end Sys2Proof
end

