-- ==== Sys2Proof/Machine/State.lean ====
section
/-! DEFINITION. The state of the bridge: the VDTM instance (R20), the SWD-DMI instance (R30) with its two pins (R33),
what the block has last written to the target's hidden registers (R34, R42), and the environment at its boundary:
the calls, levels and answers still to come, and the record of what the block has put out. -/

namespace Sys2Proof.Machine

/-- The sixteen TAP states under the spec's names (R24); no code is given to them (D5). -/
inductive TapState where
  | sReset
  | sRunIdle
  | sSelectDr
  | sCaptureDr
  | sShiftDr
  | sExit1Dr
  | sPauseDr
  | sExit2Dr
  | sUpdateDr
  | sSelectIr
  | sCaptureIr
  | sShiftIr
  | sExit1Ir
  | sPauseIr
  | sExit2Ir
  | sUpdateIr
deriving DecidableEq, Repr

/-- What an upcall is bound to (R28): nothing; the SWD-DMI of the assembled bridge (R306); or another function of the
environment, whose answers are in `upcallIn` (R208). -/
inductive Binding where
  | unbound
  | bridge
  | environment
deriving DecidableEq, Repr

/-- One SWCLK cycle, low-high-low (R223), as it stands on SWDIO (R94): driven by the block, sampled by the block, or
neither. -/
inductive Cycle where
  | driven (level : Bool)
  | sampled (level : Bool)
  | released
deriving DecidableEq, Repr

/-- What the block does with SWDIO in the SWCLK cycle that it is about to make: drive a level (R220), sample (R221), or
neither (R222). -/
inductive Line where
  | drive (level : Bool)
  | sample
  | release
deriving DecidableEq, Repr

/-- One call of a bound upcall (R28). -/
inductive Upcall where
  | read (addr : DmiAddr)
  | write (addr : DmiAddr) (data : Word)
deriving DecidableEq, Repr

/-- How the environment's own upcall function answers one call: it returns (a write's datum is not looked at), or it
never returns (R176). -/
inductive UpcallAnswer where
  | returns (data : Word)
  | hangs
deriving DecidableEq, Repr

/-- The status of a transaction (R226): OK, or non-OK with the ACK value handed back. -/
inductive AckStatus where
  | ok
  | notOk (ack : Ack)
deriving DecidableEq, Repr

/-- The causes of a failed `connect` (R321). -/
inductive Cause where
  | linkFault
  | powerUpTimeout
  | wrongAp
deriving DecidableEq, Repr

/-- What an entry point hands back to its caller. `connect` shows 0 or non-zero and no cause (R322). -/
inductive Return where
  | tdo (level : Bool)
  | connect (status : Nat)
  | dmiRead (data : Word)
  | swdAck (status : AckStatus)
  | swdRead (status : AckStatus) (data : Word)
  | swdWrite (status : AckStatus)
deriving DecidableEq, Repr

/-- Where the packet framer stands between two steps: at rest, or past the header and first turnaround of a read or
of a write, with the ACK due next (R230, R231). Only a header sent by itself leaves it away from rest. -/
inductive Framer where
  | idle
  | reading
  | writing (apndp : Bool) (a : RegAddr)
deriving DecidableEq, Repr

/-- A call of an entry point by the environment (R15), of a binder (R28) or of the destructor (R352); and, as the
model's own addition, of the packet framer by itself (log entry 10). -/
inductive Event where
  | setTms (v : Bool)
  | setTdi (v : Bool)
  | setTck (v : Bool)
  | getTdo
  | connect
  | dmiRead (addr : DmiAddr)
  | dmiWrite (addr : DmiAddr) (data : Word)
  /-- Bind `dmi_read` to the SWD-DMI (`true`) or to another function of the environment (`false`). -/
  | bindRead (toBridge : Bool)
  /-- Bind `dmi_write` likewise. -/
  | bindWrite (toBridge : Bool)
  | destroy
  /-- Send the header `h`; `data` is the word of its data phase, if it has one. -/
  | swdHeader (h : HeaderByte) (data : Word)
  /-- Perform the packet `w`. -/
  | swdPacket (w : PacketWord)
deriving DecidableEq, Repr

/-- Why the machine stops for good. -/
inductive Fault where
  /-- Raised by a DMI read or write whose upcall is bound to a function of the environment that never returns: the
  rising edge then never completes (R176). Safe: nothing is claimed of what follows. Log entry 25. -/
  | upcallNeverReturns
deriving DecidableEq, Repr

/-- What the model gives no meaning to. -/
inductive Refusal where
  /-- Raised by exec for an instruction that has no meaning yet; safe. -/
  | notModelled (mnemonic : String)
  /-- Raised by the destructor: a run ends at destruction and nothing is said of the wire after it (R352, U21). Safe. Log
  entry 26. -/
  | destroyed
  /-- Raised by a direct call of the framer with a word that is no header or packet of the tables; the block itself
  never forms one (R92, R94). Safe. -/
  | undecodable (why : DecodeError)
deriving DecidableEq, Repr

/-- The whole state; INVENTORY.md lists every field with its rule and its reset value. -/
structure State where
  -- the VDTM instance (R20)
  idcode : Word
  ir : IrCode
  shifter : ShiftReg
  tapState : TapState
  dmiRdata : Word
  tck : Bool
  tms : Bool
  tdi : Bool
  tdo : Bool
  dmiReadBinding : Binding
  dmiWriteBinding : Binding
  -- the SWD-DMI instance (R30) and its pins (R33)
  targetsel : Word
  apsel : BitVec 8
  tarCache : Word
  tarCacheValid : Bool
  swclkOutput : Bool
  swclk : Bool
  swdioConfigured : Bool
  swdioDriven : Bool
  swdioLevel : Bool
  -- failures: the sticky AccessFault with its ACK (R305, R323), the cause of the last connect (R322)
  linkFault : Option Ack
  connectCause : Option Cause
  -- the packet framer by itself: its place in a packet and the word of its data phase
  framer : Framer
  swdData : Word
  -- the last words that the target accepted for SELECT and for TAR (R34, R42)
  selectShadow : Option Word
  tarShadow : Option Word
  -- the environment: calls to come, the target's bits to come, answers of its upcall functions, draws made
  events : List Event
  swdioIn : List Bool
  upcallIn : List UpcallAnswer
  draws : Nat
  -- what the block has put out, oldest first
  wire : List Cycle
  upcalls : List Upcall
  returns : List Return
deriving DecidableEq, Repr

/-- The machine after the construction of both instances (R43, R350). -/
def State.reset : State :=
  { idcode := Config.idcode
    ir := irIdcode
    shifter := shifterInit
    tapState := .sReset
    dmiRdata := dmiRdataInit
    tck := tckInit
    tms := tmsInit
    tdi := tdiInit
    tdo := tdoInit
    dmiReadBinding := .unbound
    dmiWriteBinding := .unbound
    targetsel := Config.targetsel
    apsel := Config.apsel
    tarCache := tarCacheInit
    tarCacheValid := tarCacheValidInit
    swclkOutput := false
    swclk := false
    swdioConfigured := false
    swdioDriven := false
    swdioLevel := false
    linkFault := none
    connectCause := none
    framer := .idle
    swdData := 0#32
    selectShadow := none
    tarShadow := none
    events := []
    swdioIn := []
    upcallIn := []
    draws := 0
    wire := []
    upcalls := []
    returns := [] }

end Sys2Proof.Machine
end

