-- ==== Sys2Proof/Machine/Ops.lean ====
section
/-! DEFINITION. The shared operations: the three wire primitives (R220 to R223), the phases of a packet and the three
transactions (R230 to R232), and, in the place of exceptions, the failure of an access, the failure of `connect` and
the recovery from both (R305, R321, R329). -/

namespace Sys2Proof.Machine

/-- The outcomes of this machine. -/
abbrev Result := Host.Outcome State Fault Refusal

/-- Go on with `k` from a next state; a fault or a refusal stays. -/
def continueWith (o : Result) (k : State → State) : Result :=
  match o with
  | .next s => .next (k s)
  | .fault r => .fault r
  | .refused r => .refused r

/-- An entry point hands a value back to its caller. -/
def answer (r : Return) (s : State) : State := { s with returns := s.returns ++ [r] }

/-! One SWCLK cycle: the one step that the SWD-DMI takes (R18). Everything that the block does on the wire is a list of
such steps. -/

/-- The level that SWDIO shows when it is sampled next: the target's, and a free value once the target's answers have
run out (R221, D18; log entry 6). -/
def swdioNow (s : State) : Bool := s.swdioIn.head?.getD (Config.swdioFree s.draws)

/-- ONE STEP OF THE SWD-DMI (R18): one SWCLK cycle, low, high, low (R223), with SWDIO driven (R220), sampled (R221) or
left alone (R222; R33). -/
def swclkCycle (l : Line) (s : State) : State :=
  match l with
  | .drive b =>
    { s with swclk := false, swdioDriven := true, swdioLevel := b, wire := s.wire ++ [Cycle.driven b] }
  | .sample =>
    { s with
      swclk := false
      swdioDriven := false
      swdioIn := s.swdioIn.drop 1
      draws := s.draws + (1 - s.swdioIn.length)
      wire := s.wire ++ [Cycle.sampled (swdioNow s)] }
  | .release => { s with swclk := false, swdioDriven := false, wire := s.wire ++ [Cycle.released] }

/-- What that cycle brings in: one level if it samples. -/
def levelsIn (l : Line) (s : State) : List Bool :=
  match l with
  | .sample => [swdioNow s]
  | _ => []

/-- Cycle after cycle: the levels sampled, in order, and the state after the last. -/
def swclkCycles : List Line → State → List Bool × State
  | [], s => ([], s)
  | l :: ls, s =>
    let r := swclkCycles ls (swclkCycle l s)
    (levelsIn l s ++ r.1, r.2)

/-! Wire primitives: the direction of SWDIO, then cycle after cycle. Each leaves SWCLK low (R223). -/

/-- `put_bits`: one driven cycle for each bit (R220); SWDIO is left driven at the last bit's level (R33). -/
def putBits (bits : List Bool) (s : State) : State :=
  (swclkCycles (bits.map Line.drive) { s with swclk := false, swdioDriven := true }).2

/-- `get_bits`: one sampled cycle for each of `n` bits (R221); SWDIO is left hi-Z (R33). -/
def getBits (n : Nat) (s : State) : List Bool × State :=
  swclkCycles (List.replicate n Line.sample) { s with swclk := false, swdioDriven := false }

/-- `hiz_clocks`: `n` cycles neither driven nor sampled (R222); SWDIO is left hi-Z (R33). -/
def hizClocks (n : Nat) (s : State) : State :=
  (swclkCycles (List.replicate n Line.release) { s with swclk := false, swdioDriven := false }).2

/-- The next `n` levels on SWDIO, all at once: the target's answers, and free values once those have run out (R221,
D18). `getBits` samples them one by one. -/
def sampledBits (n : Nat) (s : State) : List Bool :=
  s.swdioIn.take n ++ (List.range (n - s.swdioIn.length)).map fun i => Config.swdioFree (s.draws + i)

/-! The phases of a packet. -/

/-- The header and the turnaround after it: 9 cycles (R230, R231). -/
def requestPhase (apndp rnw : Bool) (a : RegAddr) (s : State) : State :=
  hizClocks 1 (putBits (lsbFirst (header apndp rnw a)) s)

/-- The three ACK cycles (R226, R230, R231). -/
def ackPhase (s : State) : Ack × State :=
  let g := getBits 3 s
  (packLsb 3 g.1, g.2)

/-- The rest of a read after its ACK: 32 data bits, one parity bit sampled and thrown away (R225), turnaround (R230). -/
def readDataPhase (s : State) : Word × State :=
  let g := getBits 32 s
  let p := getBits 1 g.2
  (packLsb 32 g.1, hizClocks 1 p.2)

/-- 32 data bits and their even-parity bit, driven (R225). -/
def driveData (data : Word) (s : State) : State :=
  putBits [parity data] (putBits (lsbFirst data) s)

/-- The rest of a write after its ACK: turnaround, data, parity (R231). -/
def writeDataPhase (data : Word) (s : State) : State := driveData data (hizClocks 1 s)

/-- What the target is known to hold after a write that it answered (R34, R42): an OK write to the SELECT or the TAR
address leaves that word there. Log entry 9. -/
def noteWrite (apndp : Bool) (a : RegAddr) (data : Word) (ack : Ack) (s : State) : State :=
  if ackIsOk ack then
    if apndp = false ∧ a = aSelect then { s with selectShadow := some data }
    else if apndp = true ∧ a = aTar then { s with tarShadow := some data }
    else s
  else s

/-- The status handed back for an ACK value (R226). -/
def ackStatus (ack : Ack) : AckStatus := if ackIsOk ack then .ok else .notOk ack

/-! The three transactions. -/

/-- What a read transaction returns, and the state it leaves. -/
structure ReadResult where
  ack : Ack
  data : Word
  state : State

/-- What a write transaction returns, and the state it leaves. -/
structure WriteResult where
  ack : Ack
  state : State

/-- `SwdRead(APnDP, A)` (R230): all 46 cycles, whatever the ACK (D8, log entry 16). -/
def swdRead (apndp : Bool) (a : RegAddr) (s : State) : ReadResult :=
  let k := ackPhase (requestPhase apndp true a s)
  let d := readDataPhase k.2
  ⟨k.1, d.1, d.2⟩

/-- `SwdWrite(APnDP, A, data)` (R231): all 46 cycles, the data driven whatever the ACK (D8, log
entry 16). -/
def swdWrite (apndp : Bool) (a : RegAddr) (data : Word) (s : State) : WriteResult :=
  let k := ackPhase (requestPhase apndp false a s)
  ⟨k.1, noteWrite apndp a data k.1 (writeDataPhase data k.2)⟩

/-- `SwdTargetsel(data)` (R232): five released cycles where a write has its turnarounds and its ACK. -/
def swdTargetsel (data : Word) (s : State) : State :=
  driveData data (hizClocks 5 (putBits (lsbFirst (header false false aTargetsel)) s))

/-! The framer by itself: a header, and the ACK that follows it, as two instructions. -/

/-- Send a header and its turnaround; the ACK is due next. DESIGN CHOICE, log entry 10. -/
def sendHeader (apndp rnw : Bool) (a : RegAddr) (s : State) : State :=
  { requestPhase apndp rnw a s with framer := if rnw then .reading else .writing apndp a }

/-- An ACK has been sampled: its data phase is clocked whatever its value (D8) and its status is handed back (R226).
With no transaction open there is no data phase to clock. -/
def receiveAck (ack : Ack) (s : State) : State :=
  match s.framer with
  | .idle => answer (.swdAck (ackStatus ack)) s
  | .reading =>
    let d := readDataPhase s
    answer (.swdRead (ackStatus ack) d.1) { d.2 with framer := .idle }
  | .writing apndp a =>
    let t := noteWrite apndp a s.swdData ack (writeDataPhase s.swdData s)
    answer (.swdWrite (ackStatus ack)) { t with framer := .idle }

/-! Failures and the recovery from them. -/

/-- `access_fault`: the sticky mark with the ACK value (R305, R323). DESIGN CHOICE D11, log entry 11. Nothing else changes and nothing is told to
the JTAG host (R327). -/
def accessFault (ack : Ack) (s : State) : State := { s with linkFault := some ack }

/-- `fail <Cause>`: `connect` returns 1; the cause is the model's own (R322, D13; log entry 20),
and nothing else is saved (R328). -/
def connectFailed (c : Cause) (s : State) : State :=
  answer (.connect 1) { s with connectCause := some c }

/-- `connect` returns 0: the one recovery there is, and the one place where the sticky mark is cleared (R305, R329). -/
def connectSucceeded (s : State) : State :=
  answer (.connect 0) { s with connectCause := none, linkFault := none }

end Sys2Proof.Machine
end

