-- ==== Sys2Proof/Machine/AckInstrs.lean ====
section
/-! DEFINITION. The SWD acknowledges (R93, R226): each is what the framer does once its three bits have been sampled. -/

namespace Sys2Proof.Machine

/-- OK: the only value treated as success (R93, R226). -/
def execAckOk (s : State) : Result := .next (receiveAck 0b001#3 s)

/-- WAIT: non-OK, and no retry (R234) (R93, R226). -/
def execAckWait (s : State) : Result := .next (receiveAck 0b010#3 s)

/-- FAULT: non-OK (R93, R226). -/
def execAckFault (s : State) : Result := .next (receiveAck 0b100#3 s)

/-- DISCONNECTED: non-OK (R93, R226). -/
def execAckDisconnected (s : State) : Result := .next (receiveAck 0b111#3 s)

/-- Unnamed: non-OK (R93, R226). -/
def execAck000 (s : State) : Result := .next (receiveAck 0b000#3 s)

/-- Unnamed: non-OK (R93, R226). -/
def execAck011 (s : State) : Result := .next (receiveAck 0b011#3 s)

/-- Unnamed: non-OK (R93, R226). -/
def execAck101 (s : State) : Result := .next (receiveAck 0b101#3 s)

/-- Unnamed: non-OK (R93, R226). -/
def execAck110 (s : State) : Result := .next (receiveAck 0b110#3 s)

end Sys2Proof.Machine
end

