-- ==== Sys2Proof/Machine/Access.lean ====
section
/-! DEFINITION. DMI accesses through the target's Mem-AP (R300 to R307) and the two upcalls by which the VDTM asks for
them (R28, R202, R203, R306). -/

namespace Sys2Proof.Machine

/-- The TAR cache holds `b` (R301). -/
def tarHit (b : Word) (s : State) : Bool := s.tarCacheValid && s.tarCache == b

/-- `EnsureTar(b)` (R301): a hit sends nothing; a miss writes TAR, and only an OK write leaves the cache valid
(D12, log entry 19). -/
def ensureTar (b : Word) (s : State) : WriteResult :=
  if tarHit b s then ⟨ackValueOk, s⟩
  else
    let r := swdWrite true aTar b s
    if ackIsOk r.ack then ⟨r.ack, { r.state with tarCache := b, tarCacheValid := true }⟩
    else ⟨r.ack, { r.state with tarCacheValid := false }⟩

/-- A failed `DmiRead`: the access fault, and a free value as its result (R305, D11; log entry 7). -/
def failRead (ack : Ack) (s : State) : Word × State :=
  (Config.failedReadData s.draws, accessFault ack { s with draws := s.draws + 1 })

/-- `DmiRead(addr)` (R302): TAR, the posted DRW read whose data is discarded, RDBUF. It stops at the first transaction
that is not OK. -/
def dmiReadAccess (addr : DmiAddr) (s : State) : Word × State :=
  let e := ensureTar (byteAddr addr) s
  if ackIsOk e.ack then
    let p := swdRead true aDrw e.state
    if ackIsOk p.ack then
      let r := swdRead false aRdbuf p.state
      if ackIsOk r.ack then (r.data, r.state) else failRead r.ack r.state
    else failRead p.ack p.state
  else failRead e.ack e.state

/-- `DmiWrite(addr, data)` (R303): TAR, then DRW, and nothing after it. -/
def dmiWriteAccess (addr : DmiAddr) (data : Word) (s : State) : State :=
  let e := ensureTar (byteAddr addr) s
  if ackIsOk e.ack then
    let w := swdWrite true aDrw data e.state
    if ackIsOk w.ack then w.state else accessFault w.ack w.state
  else accessFault e.ack e.state

/-- The VDTM makes an upcall. -/
def logUpcall (u : Upcall) (s : State) : State := { s with upcalls := s.upcalls ++ [u] }

/-- The `dmi_read(addr)` upcall and the latch of its result (R202): dropped when unbound; the SWD-DMI's `DmiRead` in
the assembled bridge (R306); else the environment's next answer, and a free value when there is none left. -/
def callDmiRead (addr : DmiAddr) (s : State) : Result :=
  match s.dmiReadBinding with
  | .unbound => .next s
  | .bridge =>
    let r := dmiReadAccess addr (logUpcall (.read addr) s)
    .next { r.2 with dmiRdata := r.1 }
  | .environment =>
    match s.upcallIn with
    | .hangs :: _ => .fault .upcallNeverReturns
    | .returns v :: rest => .next { logUpcall (.read addr) s with upcallIn := rest, dmiRdata := v }
    | [] => .next { logUpcall (.read addr) s with draws := s.draws + 1, dmiRdata := Config.upcallData s.draws }

/-- The `dmi_write(addr, data)` upcall (R203): dropped when unbound; the SWD-DMI's `DmiWrite` in the assembled bridge;
else the environment's function, which hands nothing back. -/
def callDmiWrite (addr : DmiAddr) (data : Word) (s : State) : Result :=
  match s.dmiWriteBinding with
  | .unbound => .next s
  | .bridge => .next (dmiWriteAccess addr data (logUpcall (.write addr data) s))
  | .environment =>
    match s.upcallIn with
    | .hangs :: _ => .fault .upcallNeverReturns
    | .returns _ :: rest => .next { logUpcall (.write addr data) s with upcallIn := rest }
    | [] => .next (logUpcall (.write addr data) s)

end Sys2Proof.Machine
end

