-- ==== Sys2Proof/Machine/DmiInstrs.lean ====
section
/-! DEFINITION. The DMI operations (R101), as the action of the rising edge taken in S_UPDATE_DR with DMI in `ir`. -/

namespace Sys2Proof.Machine

/-- Op 0: ignored (R201). -/
def execDmiNop (_addr : DmiAddr) (_data : Word) (s : State) : Result := .next s

/-- Op 1: one `dmi_read(addr)` upcall, its result latched; the data field is ignored (R202). -/
def execDmiRead (addr : DmiAddr) (_data : Word) (s : State) : Result := callDmiRead addr s

/-- Op 2: one `dmi_write(addr, data)` upcall (R203). -/
def execDmiWrite (addr : DmiAddr) (data : Word) (s : State) : Result := callDmiWrite addr data s

/-- Op 3: ignored, exactly as op 0 (R204). -/
def execDmiReserved (_addr : DmiAddr) (_data : Word) (s : State) : Result := .next s

end Sys2Proof.Machine
end

