-- ==== Sys2Proof/Machine/HeaderInstrs.lean ====
section
/-! DEFINITION. The SWD request headers (R102): each sends its header byte (R224) and the turnaround after it, and
leaves the framer with the ACK due; the data word of a write is `swdData`. TARGETSEL is the one header that no ACK
answers (R232). -/

namespace Sys2Proof.Machine

/-- DP write, A[3:2] = 0b00: ABORT (R265). -/
def execDpAbortWr (s : State) : Result := .next (sendHeader false false 0b00#2 s)

/-- DP write, A[3:2] = 0b01: CTRL/STAT (R267). -/
def execDpCtrlstatWr (s : State) : Result := .next (sendHeader false false 0b01#2 s)

/-- DP write, A[3:2] = 0b10: SELECT (R266, R269, R270). -/
def execDpSelectWr (s : State) : Result := .next (sendHeader false false 0b10#2 s)

/-- DP write, A[3:2] = 0b11: the whole TARGETSEL packet, since nothing in it is sampled and it cannot fail (R232). -/
def execDpTargetselWr (s : State) : Result := .next (swdTargetsel s.swdData s)

/-- DP read, A[3:2] = 0b00: DPIDR (R264). -/
def execDpDpidrRd (s : State) : Result := .next (sendHeader false true 0b00#2 s)

/-- DP read, A[3:2] = 0b01: CTRL/STAT (R268). -/
def execDpCtrlstatRd (s : State) : Result := .next (sendHeader false true 0b01#2 s)

/-- DP read, A[3:2] = 0b10: no register of the block's (R102). -/
def execHdrDpRdA2 (s : State) : Result := .next (sendHeader false true 0b10#2 s)

/-- DP read, A[3:2] = 0b11: RDBUF (R269, R302). -/
def execDpRdbufRd (s : State) : Result := .next (sendHeader false true 0b11#2 s)

/-- AP write, A[3:2] = 0b00: not used by the block (R102). -/
def execHdrApWrA0 (s : State) : Result := .next (sendHeader true false 0b00#2 s)

/-- AP write, A[3:2] = 0b01: TAR (R301). -/
def execApTarWr (s : State) : Result := .next (sendHeader true false 0b01#2 s)

/-- AP write, A[3:2] = 0b10: not used by the block (R102). -/
def execHdrApWrA2 (s : State) : Result := .next (sendHeader true false 0b10#2 s)

/-- AP write, A[3:2] = 0b11: DRW (R303). -/
def execApDrwWr (s : State) : Result := .next (sendHeader true false 0b11#2 s)

/-- AP read, A[3:2] = 0b00: not used by the block (R102). -/
def execHdrApRdA0 (s : State) : Result := .next (sendHeader true true 0b00#2 s)

/-- AP read, A[3:2] = 0b01: not used by the block (R102). -/
def execHdrApRdA1 (s : State) : Result := .next (sendHeader true true 0b01#2 s)

/-- AP read, A[3:2] = 0b10: not used by the block (R102). -/
def execHdrApRdA2 (s : State) : Result := .next (sendHeader true true 0b10#2 s)

/-- AP read, A[3:2] = 0b11: IDR or DRW, by the bank (R269, R302). -/
def execApIdrDrwRd (s : State) : Result := .next (sendHeader true true 0b11#2 s)

end Sys2Proof.Machine
end

