-- ==== Sys2Proof/Machine/Tap.lean ====
section
/-! DEFINITION. The TAP controller: its transition function (R140), the action of each state (R161 to R174) and the
two ends of a clock edge (R134, R135). -/

namespace Sys2Proof.Machine

/-- `next_state(s, tms)` (R140). PRESUMED: the source prints no table (G1); log entry 14. -/
def nextState (s : TapState) (tms : Bool) : TapState :=
  match s with
  | .sReset => bif tms then .sReset else .sRunIdle
  | .sRunIdle => bif tms then .sSelectDr else .sRunIdle
  | .sSelectDr => bif tms then .sSelectIr else .sCaptureDr
  | .sCaptureDr => bif tms then .sExit1Dr else .sShiftDr
  | .sShiftDr => bif tms then .sExit1Dr else .sShiftDr
  | .sExit1Dr => bif tms then .sUpdateDr else .sPauseDr
  | .sPauseDr => bif tms then .sExit2Dr else .sPauseDr
  | .sExit2Dr => bif tms then .sUpdateDr else .sShiftDr
  | .sUpdateDr => bif tms then .sSelectDr else .sRunIdle
  | .sSelectIr => bif tms then .sReset else .sCaptureIr
  | .sCaptureIr => bif tms then .sExit1Ir else .sShiftIr
  | .sShiftIr => bif tms then .sExit1Ir else .sShiftIr
  | .sExit1Ir => bif tms then .sUpdateIr else .sPauseIr
  | .sPauseIr => bif tms then .sExit2Ir else .sPauseIr
  | .sExit2Ir => bif tms then .sUpdateIr else .sShiftIr
  | .sUpdateIr => bif tms then .sSelectDr else .sRunIdle

/-! The actions. -/

/-- S_RESET: the instruction register is set to IDCODE and nothing else (R161). -/
def resetIr (s : State) : State := { s with ir := irIdcode }

/-- S_CAPTURE_IR: the current instruction, not a fixed pattern (R162). -/
def captureIr (s : State) : State := { s with shifter := captureIrCode s.ir }

/-- S_SHIFT_IR: TDI enters at bit 4 (R163). -/
def shiftIr (s : State) : State :=
  { s with shifter := (s.shifter >>> 1) ||| (bitAtZero s.tdi <<< (wIr - 1)) }

/-- S_UPDATE_IR: `ir <- shifter[4:0]` (R164). -/
def updateIr (s : State) : State := { s with ir := s.shifter.setWidth 5 }

/-- The capture of a defined instruction: the shifter is loaded with `v` (R166 to R169). -/
def loadShifter (v : ShiftReg) (s : State) : State := { s with shifter := v }

/-- S_SHIFT_DR for a data register of `len` bits, in the masked form (R171, C4). DESIGN CHOICE of the spec,
D7; log entry 15. -/
def shiftDr (len : Nat) (s : State) : State :=
  { s with shifter := ((s.shifter &&& shiftMask len) >>> 1) ||| (bitAtZero s.tdi <<< (len - 1)) }

/-- The action of a rising edge (R135 step 1) under an instruction given by its capture (R165), the length of its data
register (R160) and its update (R172). The other nine states have no action (R174). -/
def tapAction (capture : State → State) (len : Nat) (update : State → Result) (s : State) : Result :=
  match s.tapState with
  | .sReset => .next (resetIr s)
  | .sCaptureIr => .next (captureIr s)
  | .sShiftIr => .next (shiftIr s)
  | .sUpdateIr => .next (updateIr s)
  | .sCaptureDr => .next (capture s)
  | .sShiftDr => .next (shiftDr len s)
  | .sUpdateDr => update s
  | .sRunIdle => .next s
  | .sSelectDr => .next s
  | .sExit1Dr => .next s
  | .sPauseDr => .next s
  | .sExit2Dr => .next s
  | .sSelectIr => .next s
  | .sExit1Ir => .next s
  | .sPauseIr => .next s
  | .sExit2Ir => .next s

/-! The edges. -/

/-- What follows the action on a rising edge (R135 steps 2 and 3, R132): the TAP moves, an entry into S_RESET sets `ir`,
and the new level of TCK is stored. The entry clobber is C5 and D16; log entry 22. -/
def finishRisingEdge (s : State) : State :=
  { s with
    tapState := nextState s.tapState s.tms
    tck := true
    ir := if nextState s.tapState s.tms = .sReset then irIdcode else s.ir }

/-- The TDO policy (R134). -/
def tdoPolicy (tap : TapState) (shifter : ShiftReg) : Bool :=
  if tap = .sShiftDr ∨ tap = .sShiftIr then shifter.getLsbD 0 else false

/-- A falling edge (R134), with the store of the new level (R132). -/
def fallingEdge (s : State) : State := { s with tdo := tdoPolicy s.tapState s.shifter, tck := false }

end Sys2Proof.Machine
end

