-- ==== Sys2Proof/Machine/IrInstrs.lean ====
section
/-! DEFINITION. The JTAG instructions (R100): what a rising edge does with each of them in `ir`. The instruction decides
the action in S_CAPTURE_DR, S_SHIFT_DR and S_UPDATE_DR; in every other state the action is the same for all. -/

namespace Sys2Proof.Machine

/-- BYPASS: one bit, captures 0 (R166). -/
def execBypass (s : State) : Result :=
  tapAction (loadShifter 0#42) (drLen irBypass) .next s

/-- IDCODE: 32 bits, captures `idcode`; an update has no effect (R38, R167). -/
def execIdcode (s : State) : Result :=
  tapAction (loadShifter (captureWord s.idcode)) (drLen irIdcode) .next s

/-- DTMCS: 32 bits, captures 0x81; the write handler does nothing (R168, R173). -/
def execDtmcs (s : State) : Result :=
  tapAction (loadShifter (captureWord dtmcsValue)) (drLen irDtmcs) .next s

/-- The DMI dispatch of UPDATE-DR (R200): op 1 reads, op 2 writes, op 0 and op 3 do nothing. -/
def dmiDispatch (s : State) : Result :=
  if dmiOp s.shifter = 1#2 then callDmiRead (dmiAddr s.shifter) s
  else if dmiOp s.shifter = 2#2 then callDmiWrite (dmiAddr s.shifter) (dmiData s.shifter) s
  else .next s

/-- DMI: 42 bits, captures the result of the last DMI read, dispatches at UPDATE-DR (R169, R200). -/
def execDmi (s : State) : Result :=
  tapAction (loadShifter (captureDmi s.dmiRdata)) (drLen irDmi) dmiDispatch s

/-- An undefined instruction: one bit, whose capture leaves the shifter as it is and whose update does nothing (R170,
R172); `code` is its whole code. -/
def undefinedAction (code : IrCode) (s : State) : Result := tapAction id (drLen code) .next s

/-- Codes 0x02 and 0x03 (R170). -/
def execUndef0203 (low : BitVec 1) (s : State) : Result := undefinedAction (0x02#5 ||| low.setWidth 5) s

/-- Codes 0x04 to 0x07 (R170). -/
def execUndef0407 (low : BitVec 2) (s : State) : Result := undefinedAction (0x04#5 ||| low.setWidth 5) s

/-- Codes 0x08 to 0x0F (R170). -/
def execUndef080F (low : BitVec 3) (s : State) : Result := undefinedAction (0x08#5 ||| low.setWidth 5) s

/-- Codes 0x12 and 0x13 (R170). -/
def execUndef1213 (low : BitVec 1) (s : State) : Result := undefinedAction (0x12#5 ||| low.setWidth 5) s

/-- Codes 0x14 to 0x17 (R170). -/
def execUndef1417 (low : BitVec 2) (s : State) : Result := undefinedAction (0x14#5 ||| low.setWidth 5) s

/-- Codes 0x18 to 0x1F, the all-ones code among them (R100, R170). -/
def execUndef181F (low : BitVec 3) (s : State) : Result := undefinedAction (0x18#5 ||| low.setWidth 5) s

end Sys2Proof.Machine
end

