-- ==== Sys2Proof/Machine/PacketInstrs.lean ====
section
/-! DEFINITION. The three packets (R94) as whole transactions called by themselves. -/

namespace Sys2Proof.Machine

/-- A read: 46 cycles, and the status and the data handed back (R230). -/
def execSwdReadPacket (apndp : Bool) (a : RegAddr) (s : State) : Result :=
  let r := swdRead apndp a s
  .next (answer (.swdRead (ackStatus r.ack) r.data) r.state)

/-- A write: 46 cycles, and the status handed back (R231). -/
def execSwdWritePacket (apndp : Bool) (a : RegAddr) (data : Word) (s : State) : Result :=
  let r := swdWrite apndp a data s
  .next (answer (.swdWrite (ackStatus r.ack)) r.state)

/-- TARGETSEL: 46 cycles, nothing sampled, no result (R232). -/
def execSwdTargetselPacket (data : Word) (s : State) : Result := .next (swdTargetsel data s)

end Sys2Proof.Machine
end

