-- ==== Sys2Proof/Machine/Dispatch.lean ====
section
/-! DEFINITION. The meaning of each instruction, one arm for each constructor of Instr. -/

namespace Sys2Proof.Machine

def exec (i : Instr) (s : State) : Host.Outcome State Fault Refusal :=
  match i with
  | .bypass => Sys2Proof.Machine.execBypass s
  | .idcode => Sys2Proof.Machine.execIdcode s
  | .dtmcs => Sys2Proof.Machine.execDtmcs s
  | .dmi => Sys2Proof.Machine.execDmi s
  | .undef0203 low => Sys2Proof.Machine.execUndef0203 low s
  | .undef0407 low => Sys2Proof.Machine.execUndef0407 low s
  | .undef080F low => Sys2Proof.Machine.execUndef080F low s
  | .undef1213 low => Sys2Proof.Machine.execUndef1213 low s
  | .undef1417 low => Sys2Proof.Machine.execUndef1417 low s
  | .undef181F low => Sys2Proof.Machine.execUndef181F low s
  | .dmiNop addr data => Sys2Proof.Machine.execDmiNop addr data s
  | .dmiRead addr data => Sys2Proof.Machine.execDmiRead addr data s
  | .dmiWrite addr data => Sys2Proof.Machine.execDmiWrite addr data s
  | .dmiReserved addr data => Sys2Proof.Machine.execDmiReserved addr data s
  | .dpAbortWr => Sys2Proof.Machine.execDpAbortWr s
  | .dpCtrlstatWr => Sys2Proof.Machine.execDpCtrlstatWr s
  | .dpSelectWr => Sys2Proof.Machine.execDpSelectWr s
  | .dpTargetselWr => Sys2Proof.Machine.execDpTargetselWr s
  | .dpDpidrRd => Sys2Proof.Machine.execDpDpidrRd s
  | .dpCtrlstatRd => Sys2Proof.Machine.execDpCtrlstatRd s
  | .hdrDpRdA2 => Sys2Proof.Machine.execHdrDpRdA2 s
  | .dpRdbufRd => Sys2Proof.Machine.execDpRdbufRd s
  | .hdrApWrA0 => Sys2Proof.Machine.execHdrApWrA0 s
  | .apTarWr => Sys2Proof.Machine.execApTarWr s
  | .hdrApWrA2 => Sys2Proof.Machine.execHdrApWrA2 s
  | .apDrwWr => Sys2Proof.Machine.execApDrwWr s
  | .hdrApRdA0 => Sys2Proof.Machine.execHdrApRdA0 s
  | .hdrApRdA1 => Sys2Proof.Machine.execHdrApRdA1 s
  | .hdrApRdA2 => Sys2Proof.Machine.execHdrApRdA2 s
  | .apIdrDrwRd => Sys2Proof.Machine.execApIdrDrwRd s
  | .ackOk => Sys2Proof.Machine.execAckOk s
  | .ackWait => Sys2Proof.Machine.execAckWait s
  | .ackFault => Sys2Proof.Machine.execAckFault s
  | .ackDisconnected => Sys2Proof.Machine.execAckDisconnected s
  | .ack000 => Sys2Proof.Machine.execAck000 s
  | .ack011 => Sys2Proof.Machine.execAck011 s
  | .ack101 => Sys2Proof.Machine.execAck101 s
  | .ack110 => Sys2Proof.Machine.execAck110 s
  | .swdReadPacket apndp a => Sys2Proof.Machine.execSwdReadPacket apndp a s
  | .swdWritePacket apndp a data => Sys2Proof.Machine.execSwdWritePacket apndp a data s
  | .swdTargetselPacket data => Sys2Proof.Machine.execSwdTargetselPacket data s

end Sys2Proof.Machine
end

