-- ==== Sys2Proof/Machine/Link.lean ====
section
/-! DEFINITION. `connect`, the link bring-up: ten steps in a fixed order that stop at the first failure (R260 to R273). -/

namespace Sys2Proof.Machine

/-- How far a part of `connect` has come: with no cause it goes on from `state`; with a cause it has ended there. -/
structure LinkResult where
  cause : Option Cause
  state : State

/-- The next step, unless the bring-up has failed (R260). -/
def LinkResult.thenStep (r : LinkResult) (k : State → LinkResult) : LinkResult :=
  match r.cause with
  | none => k r.state
  | some _ => r

/-- `if ack != OK then fail LinkFault` after a read; the ACK is tested before the data (R326). -/
def checkRead (r : ReadResult) (k : Word → State → LinkResult) : LinkResult :=
  if ackIsOk r.ack then k r.data r.state else ⟨some .linkFault, r.state⟩

/-- `if ack != OK then fail LinkFault` after a write. -/
def checkWrite (r : WriteResult) : LinkResult :=
  if ackIsOk r.ack then ⟨none, r.state⟩ else ⟨some .linkFault, r.state⟩

/-- Step 1 (R261): the pins become the block's, SWCLK low (D9, log entry 17); the TAR cache is invalidated. DESIGN CHOICE,
log entry 35: what "configurable I/O" means for SWDIO is not found (N13); a flag records it, and SWDIO keeps its direction
and level until the first cycle of the preamble. -/
def stepInitialise (s : State) : State :=
  { s with swclkOutput := true, swclk := false, swdioConfigured := true, tarCacheValid := false }

/-- Step 2 (R262): the preamble in one piece. -/
def stepPreamble (s : State) : State := putBits preambleBits s

/-- Step 3 (R263): TARGETSEL unless `targetsel` is 0. -/
def stepTargetsel (s : State) : State := if s.targetsel = 0#32 then s else swdTargetsel s.targetsel s

/-- Step 4 (R264): the value of DPIDR is not used. -/
def stepDpidr (s : State) : LinkResult := checkRead (swdRead false aDpidr s) fun _ t => ⟨none, t⟩

/-- Step 5 (R265). -/
def stepAbort (s : State) : LinkResult := checkWrite (swdWrite false aAbort abortClearAll s)

/-- Step 6 (R266). -/
def stepSelectDp (s : State) : LinkResult := checkWrite (swdWrite false aSelect 0#32 s)

/-- Step 7 (R267). -/
def stepPowerUp (s : State) : LinkResult := checkWrite (swdWrite false aCtrlstat powerUpRequest s)

/-- Step 8 (R268), with `n` reads left; the bound is D10, log entry 18. -/
def pollPowerUp : Nat → State → LinkResult
  | 0, s => ⟨some .powerUpTimeout, s⟩
  | n + 1, s =>
    checkRead (swdRead false aCtrlstat s) fun v t => if poweredUp v then ⟨none, t⟩ else pollPowerUp n t

/-- Step 9 (R269): SELECT, the posted IDR read whose data is discarded, RDBUF, the identification test. -/
def stepIdentify (s : State) : LinkResult :=
  (checkWrite (swdWrite false aSelect (selectValue apBankIdr s.apsel) s)).thenStep fun s =>
  checkRead (swdRead true aIdr s) fun _ s =>
  checkRead (swdRead false aRdbuf s) fun idr s =>
  if isMemAp idr then ⟨none, s⟩ else ⟨some .wrongAp, s⟩

/-- Step 10 (R270): the last SELECT write is checked too (C6, D17; log entry 23). -/
def stepSelectMemAp (s : State) : LinkResult :=
  checkWrite (swdWrite false aSelect (selectValue apBankCsw s.apsel) s)

/-- Steps 1 to 10 in order (R260). -/
def bringUp (s : State) : LinkResult :=
  (stepDpidr (stepTargetsel (stepPreamble (stepInitialise s)))).thenStep fun s =>
  (stepAbort s).thenStep fun s =>
  (stepSelectDp s).thenStep fun s =>
  (stepPowerUp s).thenStep fun s =>
  (pollPowerUp pwrupAckTimeout s).thenStep fun s =>
  (stepIdentify s).thenStep stepSelectMemAp

/-- `connect()`: 0 on success, non-zero on any failure (R260). -/
def connect (s : State) : State :=
  match (bringUp s).cause with
  | none => connectSucceeded (bringUp s).state
  | some c => connectFailed c (bringUp s).state

end Sys2Proof.Machine
end

