-- ==== Sys2Proof/Machine/Events.lean ====
section
/-! DEFINITION. The calls of the environment that run no instruction of the table, and the fetch: which instruction,
if any, the next step runs. -/

namespace Sys2Proof.Machine

/-- What the next step has to do. -/
inductive Work where
  /-- No call is pending: the block does nothing between events (R15). -/
  | rest
  /-- A rising edge whose action is that of `i`, from state `s` (R135). -/
  | edge (i : Instr) (s : State)
  /-- An instruction of the packet framer, from state `s`. -/
  | run (i : Instr) (s : State)
  /-- A call that is wholly described by the state it leaves. -/
  | done (s : State)
  /-- A call with no meaning. -/
  | reject (r : Refusal)

/-- The instruction of a rising edge: the content of `ir` (R79), or, in S_UPDATE_DR with DMI in `ir`, the DMI operation
that the shifter holds (R172, R200). -/
def tapInstr (s : State) : Instr :=
  if s.tapState = .sUpdateDr ∧ s.ir = irDmi then decodeDmi s.shifter else decodeIr s.ir

/-- `set_tck(v)` (R132): the edge detector. A level that is there already is no edge and changes nothing. -/
def setTck (v : Bool) (s : State) : Work :=
  match s.tck, v with
  | false, true => .edge (tapInstr s) s
  | true, false => .done (fallingEdge s)
  | _, _ => .done s

/-- The binding that a binder sets (R28, R306). -/
def boundTo (toBridge : Bool) : Binding := bif toBridge then .bridge else .environment

/-- `DmiRead` called by itself: its result goes to the caller (R15, R302). -/
def dmiReadCall (addr : DmiAddr) (s : State) : State :=
  let r := dmiReadAccess addr s
  answer (.dmiRead r.1) r.2

/-- The work of a decoded word of the framer, or its rejection. -/
def framerWork (d : Except DecodeError Instr) (s : State) : Work :=
  match d with
  | .ok i => .run i s
  | .error e => .reject (.undecodable e)

/-- The work of one call of the environment. -/
def callWork (e : Event) (s : State) : Work :=
  match e with
  | .setTms v => .done { s with tms := v }
  | .setTdi v => .done { s with tdi := v }
  | .setTck v => setTck v s
  | .getTdo => .done (answer (.tdo s.tdo) s)
  | .connect => .done (connect s)
  | .dmiRead addr => .done (dmiReadCall addr s)
  | .dmiWrite addr data => .done (dmiWriteAccess addr data s)
  | .bindRead b => .done { s with dmiReadBinding := boundTo b }
  | .bindWrite b => .done { s with dmiWriteBinding := boundTo b }
  | .destroy => .reject .destroyed
  | .swdHeader h data => framerWork (decodeHeader h) { s with swdData := data }
  | .swdPacket w => framerWork (decodePacket w) s

/-- What the next step has to do. A header sent by itself is answered before anything else: its three ACK cycles are
sampled and what they say is the next instruction (R226). Else the environment's next call is taken. -/
def nextWork (s : State) : Work :=
  if s.framer = .idle then
    match s.events with
    | [] => .rest
    | e :: rest => callWork e { s with events := rest }
  else
    let k := ackPhase s
    .run (decodeAck k.1) k.2

/-- The sampled cycles of a read packet or of a write packet, as the target drives them (R94): a read's ACK, data and
parity are cycles 9 to 44, a write's ACK is cycles 9 to 11. -/
def targetBits (w : PacketWord) : List Bool :=
  if w.getLsbD 2 = true then lsbFirst (w.extractLsb' 9 36) else lsbFirst (w.extractLsb' 9 3)

/-- `s` with a word of a format placed where the next step fetches it: for `ir`, a rising edge in S_CAPTURE_DR is due,
where the instruction is read (R165); for a DMI operation, one in S_UPDATE_DR with DMI in `ir` (R200); for a header or
a packet, a call of the framer; for an ACK, a read whose ACK is due and whose ACK cycles carry the word. -/
def placeWord (f : Format) (w : Nat) (s : State) : State :=
  match f with
  | .ir =>
    { s with framer := .idle, tck := false, tapState := .sCaptureDr, ir := BitVec.ofNat 5 w, events := [.setTck true] }
  | .dmiDr =>
    { s with
      framer := .idle, tck := false, tapState := .sUpdateDr, ir := irDmi, shifter := BitVec.ofNat 42 w
      events := [.setTck true] }
  | .header => { s with framer := .idle, events := [.swdHeader (BitVec.ofNat 8 w) s.swdData] }
  | .ack => { s with framer := .reading, swdioIn := lsbFirst (BitVec.ofNat 3 w) ++ s.swdioIn }
  | .packet =>
    { s with
      framer := .idle, events := [.swdPacket (BitVec.ofNat 46 w)]
      swdioIn := targetBits (BitVec.ofNat 46 w) ++ s.swdioIn }

end Sys2Proof.Machine
end

