-- ==== Sys2Proof/Machine/Step.lean ====
section
/-! DEFINITION. One step: the environment's next call, or the ACK of a header sent by itself, is taken and finished. -/

namespace Sys2Proof.Machine

/-- One step. A rising edge runs its instruction and then moves the TAP (R135); every call is complete, its upcall and
all its SWD cycles with it, before the next is taken (R73, R75). -/
def step (s : State) : Host.Outcome State Fault Refusal :=
  match nextWork s with
  | .rest => .next s
  | .edge i t => continueWith (exec i t) finishRisingEdge
  | .run i t => exec i t
  | .done t => .next t
  | .reject r => .refused r

/-- `s` with a word of the opcode table, numbered as the table numbers it, placed where `step` fetches its next
instruction (log entry 13). -/
def State.withFetchWord (s : State) (nbits w : Nat) : State :=
  match tableFormat nbits w with
  | none => s
  | some f => placeWord f w s

end Sys2Proof.Machine
end

