-- ==== Sys2Proof/Machine/Cycles.lean ====
section
/-! DEFINITION. The bridge at the grain of R18: the environment issues one event at a time, the VDTM takes one step per
event, and the SWD-DMI takes one step per SWCLK cycle inside a transaction that `connect`, a DMI access or an upcall has
called. The state between two cycles is the State of the bridge, as the cycles so far have left it, and the SWD-DMI's
place in the call. `step` (Step.lean) is the whole event, as R73, R75 and R206 give it; the steps here come to the same
(the statement CycleStepsMakeTheEvent). -/

namespace Sys2Proof.Machine

/-- What the SWD-DMI can be asked to put on the wire in one piece. -/
inductive Request where
  | preamble
  | read (apndp : Bool) (a : RegAddr)
  | write (apndp : Bool) (a : RegAddr) (data : Word)
  | targetsel (data : Word)
deriving DecidableEq, Repr

/-- The header and the turnaround after it (R230, R231). -/
def headerLines (apndp rnw : Bool) (a : RegAddr) : List Line :=
  (lsbFirst (header apndp rnw a)).map Line.drive ++ [Line.release]

/-- 32 data bits and their parity bit (R225). -/
def dataLines (data : Word) : List Line := (lsbFirst data).map Line.drive ++ [Line.drive (parity data)]

/-- The SWCLK cycles of a request, all of them whatever the target answers (R230 to R232, R262; D8, log entry 16). -/
def Request.lines : Request → List Line
  | .preamble => preambleBits.map Line.drive
  | .read apndp a => headerLines apndp true a ++ List.replicate 36 Line.sample ++ [Line.release]
  | .write apndp a data =>
    headerLines apndp false a ++ List.replicate 3 Line.sample ++ [Line.release] ++ dataLines data
  | .targetsel data =>
    (lsbFirst (header false false aTargetsel)).map Line.drive ++ List.replicate 5 Line.release ++ dataLines data

/-- The transaction that is under way, by its place in `connect` (R262 to R270; `left` is how many polls may follow this
one), in `DmiRead` (R301, R302) or in `DmiWrite` (R301, R303). -/
inductive Stage where
  | preamble
  | targetsel
  | dpidr
  | abort
  | selectDp
  | powerUp
  | poll (left : Nat)
  | selectIdr
  | idrPosted
  | idrRdbuf
  | selectMemAp
  | readTar (addr : DmiAddr)
  | readDrw
  | readRdbuf
  | writeTar (addr : DmiAddr) (data : Word)
  | writeDrw (data : Word)
deriving DecidableEq, Repr

/-- What that transaction asks for. -/
def Stage.request (s : State) : Stage → Request
  | .preamble => .preamble
  | .targetsel => .targetsel s.targetsel
  | .dpidr => .read false aDpidr
  | .abort => .write false aAbort abortClearAll
  | .selectDp => .write false aSelect 0#32
  | .powerUp => .write false aCtrlstat powerUpRequest
  | .poll _ => .read false aCtrlstat
  | .selectIdr => .write false aSelect (selectValue apBankIdr s.apsel)
  | .idrPosted => .read true aIdr
  | .idrRdbuf => .read false aRdbuf
  | .selectMemAp => .write false aSelect (selectValue apBankCsw s.apsel)
  | .readTar addr => .write true aTar (byteAddr addr)
  | .readDrw => .read true aDrw
  | .readRdbuf => .read false aRdbuf
  | .writeTar addr _ => .write true aTar (byteAddr addr)
  | .writeDrw data => .write true aDrw data

/-- Who waits for the SWD-DMI: the environment, whose call it is, or a rising edge, through an upcall (R306). -/
inductive Caller where
  | environment
  | risingEdge
deriving DecidableEq, Repr

/-- The SWD-DMI's place inside a call: who waits, the transaction under way, the cycles that it has still to make, the
first of them next, and the levels that it has sampled so far. -/
structure SwdJob where
  caller : Caller
  stage : Stage
  todo : List Line
  levels : List Bool
deriving DecidableEq, Repr

/-- The bridge between two SWCLK cycles, or, with no job, between two events. -/
structure CycleState where
  state : State
  job : Option SwdJob
deriving DecidableEq, Repr

/-- A transaction is due; none of its cycles is made yet. -/
def beginStage (c : Caller) (st : Stage) (s : State) : CycleState :=
  ⟨s, some { caller := c, stage := st, todo := (st.request s).lines, levels := [] }⟩

/-- `fail <Cause>` (R321): `connect` returns. -/
def endConnect (cause : Cause) (s : State) : CycleState := ⟨connectFailed cause s, none⟩

/-- A poll is due, unless all of them have been made (R268, D10). -/
def beginPoll (c : Caller) (left : Nat) (s : State) : CycleState :=
  match left with
  | 0 => endConnect .powerUpTimeout s
  | n + 1 => beginStage c (.poll n) s

/-- `DmiRead` returns: to its caller, or, through the upcall, to the rising edge, which latches the value (R202) and
moves the TAP (R135). -/
def endRead (c : Caller) (r : Word × State) : CycleState :=
  match c with
  | .environment => ⟨answer (.dmiRead r.1) r.2, none⟩
  | .risingEdge => ⟨finishRisingEdge { r.2 with dmiRdata := r.1 }, none⟩

/-- `DmiWrite` returns. -/
def endWrite (c : Caller) (s : State) : CycleState :=
  match c with
  | .environment => ⟨s, none⟩
  | .risingEdge => ⟨finishRisingEdge s, none⟩

/-- `DmiRead` begins: with the DRW read if the TAR cache holds the address, else with the TAR write (R301, R302). -/
def beginRead (c : Caller) (addr : DmiAddr) (s : State) : CycleState :=
  beginStage c (if tarHit (byteAddr addr) s then .readDrw else .readTar addr) s

/-- `DmiWrite` begins (R301, R303). -/
def beginWrite (c : Caller) (addr : DmiAddr) (data : Word) (s : State) : CycleState :=
  beginStage c (if tarHit (byteAddr addr) s then .writeDrw data else .writeTar addr data) s

/-- The next transaction if the ACK is OK, else LinkFault (R264 to R270, R326). -/
def orLinkFault (ack : Ack) (s : State) (next : CycleState) : CycleState :=
  if ackIsOk ack then next else endConnect .linkFault s

/-- What follows the last cycle of a transaction in which these levels were sampled: the next transaction of the call,
or its return. -/
def afterStage (c : Caller) (st : Stage) (levels : List Bool) (s : State) : CycleState :=
  let ack := ackOf levels
  match st with
  | .preamble => beginStage c (if s.targetsel = 0#32 then .dpidr else .targetsel) s
  | .targetsel => beginStage c .dpidr s
  | .dpidr => orLinkFault ack s (beginStage c .abort s)
  | .abort => orLinkFault ack s (beginStage c .selectDp s)
  | .selectDp => orLinkFault ack s (beginStage c .powerUp s)
  | .powerUp => orLinkFault ack s (beginPoll c pwrupAckTimeout s)
  | .poll left =>
    orLinkFault ack s (if poweredUp (dataOf levels) then beginStage c .selectIdr s else beginPoll c left s)
  | .selectIdr => orLinkFault ack s (beginStage c .idrPosted s)
  | .idrPosted => orLinkFault ack s (beginStage c .idrRdbuf s)
  | .idrRdbuf =>
    orLinkFault ack s (if isMemAp (dataOf levels) then beginStage c .selectMemAp s else endConnect .wrongAp s)
  | .selectMemAp => orLinkFault ack s ⟨connectSucceeded s, none⟩
  | .readTar addr =>
    if ackIsOk ack then beginStage c .readDrw { s with tarCache := byteAddr addr, tarCacheValid := true }
    else endRead c (failRead ack { s with tarCacheValid := false })
  | .readDrw => if ackIsOk ack then beginStage c .readRdbuf s else endRead c (failRead ack s)
  | .readRdbuf => endRead c (if ackIsOk ack then (dataOf levels, s) else failRead ack s)
  | .writeTar addr data =>
    if ackIsOk ack then beginStage c (.writeDrw data) { s with tarCache := byteAddr addr, tarCacheValid := true }
    else endWrite c (accessFault ack { s with tarCacheValid := false })
  | .writeDrw _ => endWrite c (if ackIsOk ack then s else accessFault ack s)

/-- What the target is known to hold after a request that it answered so (R34, R42; log entry 9). -/
def noteRequest (r : Request) (levels : List Bool) (s : State) : State :=
  match r with
  | .write apndp a data => noteWrite apndp a data (ackOf levels) s
  | _ => s

/-- ONE STEP OF THE SWD-DMI (R18): the next SWCLK cycle of the transaction under way; after its last cycle the call goes
on to its next transaction or returns, which takes no cycle of its own. -/
def swdStep (j : SwdJob) (s : State) : CycleState :=
  match j.todo with
  | [] => afterStage j.caller j.stage j.levels s
  | l :: rest =>
    let t := swclkCycle l s
    let levels := j.levels ++ levelsIn l s
    if rest = [] then afterStage j.caller j.stage levels (noteRequest (j.stage.request s) levels t)
    else ⟨t, some { j with todo := rest, levels := levels }⟩

/-- The SWD-DMI is called: by the environment (`connect`, `DmiRead`, `DmiWrite`, R15), or by a rising edge that
dispatches a DMI operation whose upcall is the SWD-DMI's (R200, R306). -/
def swdCall (s : State) : Option CycleState :=
  if s.framer = .idle then
    match s.events with
    | .connect :: rest => some (beginStage .environment .preamble (stepInitialise { s with events := rest }))
    | .dmiRead addr :: rest => some (beginRead .environment addr { s with events := rest })
    | .dmiWrite addr data :: rest => some (beginWrite .environment addr data { s with events := rest })
    | .setTck true :: rest =>
      if s.tck = false then
        match tapInstr s with
        | .dmiRead addr _ =>
          if s.dmiReadBinding = .bridge then
            some (beginRead .risingEdge addr (logUpcall (.read addr) { s with events := rest }))
          else none
        | .dmiWrite addr data =>
          if s.dmiWriteBinding = .bridge then
            some (beginWrite .risingEdge addr data (logUpcall (.write addr data) { s with events := rest }))
          else none
        | _ => none
      else none
    | _ => none
  else none

/-- The outcome of a whole event, between events. -/
def betweenEvents (o : Result) : Host.Outcome CycleState Fault Refusal :=
  match o with
  | .next s => .next ⟨s, none⟩
  | .fault r => .fault r
  | .refused r => .refused r

/-- One step of whichever agent is to move (R18): the SWD-DMI while it is in a call; else the environment's next event,
which the VDTM finishes, or which calls the SWD-DMI. -/
def cycleStep (b : CycleState) : Host.Outcome CycleState Fault Refusal :=
  match b.job with
  | some j => .next (swdStep j b.state)
  | none =>
    match swdCall b.state with
    | some c => .next c
    | none => betweenEvents (step b.state)

/-- `n` steps of the agents, ended by the first fault or refusal. -/
def cycleRun : Nat → CycleState → Host.Outcome CycleState Fault Refusal
  | 0, b => .next b
  | n + 1, b =>
    match cycleStep b with
    | .next c => cycleRun n c
    | .fault r => .fault r
    | .refused r => .refused r

end Sys2Proof.Machine
end

