-- ==== Sys2Proof/Safety.lean ====
section
/-! DEFINITION. What a good run of the bridge is, and the words in which statements speak of runs: the invariants, the
stops, runs of many steps, the stimuli of R104, the target's answers and the traces they leave on the wire. -/

namespace Sys2Proof.Machine

/-! Runs. -/

/-- `k` steps, ended by the first fault or refusal. -/
def run : Nat → State → Result
  | 0, s => .next s
  | k + 1, s =>
    match step s with
    | .next t => run k t
    | .fault r => .fault r
    | .refused r => .refused r

/-- The calls `es`, one step each, from `s`. -/
def playCalls (es : List Event) (s : State) : Result := run es.length { s with events := es }

/-! The pseudo-operations of R104. -/

/-- One TCK cycle with values (tms, tdi) (R15, R104). -/
def pulse (tms tdi : Bool) : List Event := [.setTms tms, .setTdi tdi, .setTck true, .setTck false]

/-- `tms_seq`: pulses with these TMS values and TDI = 0. -/
def tmsSeq (bits : List Bool) : List Event := bits.flatMap fun b => pulse b false

/-- `tap_reset`. -/
def tapReset : List Event := tmsSeq [true, true, true, true, true]

/-- `to_idle`. -/
def toIdle : List Event := pulse false false

/-- The shifts of a scan: TDO is read before each pulse, and the last pulse has TMS = 1. -/
def scanShifts : List Bool → List Event
  | [] => []
  | [b] => .getTdo :: pulse true b
  | b :: c :: rest => .getTdo :: (pulse false b ++ scanShifts (c :: rest))

/-- `ir_scan(v)`, from S_RUN_IDLE back to it. -/
def irScan (v : IrCode) : List Event :=
  tmsSeq [true, true, false, false] ++ scanShifts (lsbFirst v) ++ tmsSeq [true, false]

/-- `dr_scan` of these TDI bits, from S_RUN_IDLE back to it. -/
def drScan (bits : List Bool) : List Event :=
  tmsSeq [true, false, false] ++ scanShifts bits ++ tmsSeq [true, false]

/-- `dmi_scan(addr, data, op)`. -/
def dmiScan (addr : DmiAddr) (data : Word) (op : BitVec 2) : List Event := drScan (lsbFirst (dmiWord addr data op))

/-- Pulses with TMS = 0, one for each TDI bit, with a look at TDO after each falling edge. -/
def watchedPulses (bits : List Bool) : List Event := bits.flatMap fun b => pulse false b ++ [.getTdo]

/-! The JTAG side. -/

/-- The states of an IR scan after its capture, the update included. -/
def TapState.inIrScan : TapState → Bool
  | .sShiftIr | .sExit1Ir | .sPauseIr | .sExit2Ir | .sUpdateIr => true
  | _ => false

/-- The states of a DR scan after its capture, the update included. -/
def TapState.inDrScan : TapState → Bool
  | .sShiftDr | .sExit1Dr | .sPauseDr | .sExit2Dr | .sUpdateDr => true
  | _ => false

/-- The nine states without an action (R174). -/
def TapState.quiet : TapState → Bool
  | .sRunIdle | .sSelectDr | .sExit1Dr | .sPauseDr | .sExit2Dr => true
  | .sSelectIr | .sExit1Ir | .sPauseIr | .sExit2Ir => true
  | _ => false

/-- `ir` holds one of the four defined codes (R100). -/
def definedIr (ir : IrCode) : Bool := ir == irBypass || ir == irIdcode || ir == irDtmcs || ir == irDmi

/-- The instruction is a JTAG instruction code. -/
def isIrInstr (i : Instr) : Bool := (encode i).1 == .ir

/-- The code of a JTAG instruction. -/
def irCode (i : Instr) : IrCode := (encode i).2.setWidth 5

/-- What CAPTURE-DR leaves in the shifter, by the content of `ir` (R165). -/
def captureValue (s : State) : ShiftReg :=
  if s.ir = irBypass then 0#42
  else if s.ir = irIdcode then captureWord s.idcode
  else if s.ir = irDtmcs then captureWord dtmcsValue
  else if s.ir = irDmi then captureDmi s.dmiRdata
  else s.shifter

/-- What holds of the VDTM in every state that a run from construction reaches. -/
structure JtagInv (s : State) : Prop where
  /-- `ir` is IDCODE whenever the TAP is in S_RESET (R22, R161). -/
  resetSelectsIdcode : s.tapState = .sReset → s.ir = irIdcode
  /-- An IR scan holds five bits (R163). -/
  irScanFits : s.tapState.inIrScan = true → s.shifter.toNat < 32
  /-- A DR scan under a defined instruction holds no bit above its register's length (R171). -/
  drScanFits : s.tapState.inDrScan = true → definedIr s.ir = true → s.shifter.toNat < 2 ^ drLen s.ir
  /-- While TCK is low, TDO is what the TDO policy says of the present state (R134). -/
  tdoFollowsPolicy : s.tck = false → s.tdo = tdoPolicy s.tapState s.shifter

/-! The SWD side. -/

/-- The call is one of R15 and R28, or the destructor: not a call of the framer by itself. -/
def Event.isBlockCall : Event → Bool
  | .swdHeader _ _ => false
  | .swdPacket _ => false
  | _ => true

/-- What holds of the TAR cache while the environment makes no call of the framer by itself. -/
structure TarInv (s : State) : Prop where
  framerIdle : s.framer = .idle
  blockCalls : ∀ e ∈ s.events, e.isBlockCall = true
  /-- A valid cache holds the value last successfully written to TAR (R31). -/
  cacheIsTar : s.tarCacheValid = true → s.tarShadow = some s.tarCache
  /-- It is the byte address of a DMI address (R64). -/
  cacheIsByteAddr : s.tarCacheValid = true → ∃ addr : DmiAddr, s.tarCache = byteAddr addr

/-- No `link_fault` is recorded: the premise of claims about DMI traffic (R305). -/
def Clean (s : State) : Prop := s.linkFault = none

/-- The environment's functions answer every call: the one way an action can fail to return is left out (R176). -/
def Answering (s : State) : Prop :=
  (s.dmiReadBinding = .environment ∨ s.dmiWriteBinding = .environment) → s.upcallIn.head? ≠ some .hangs

/-- The answer of a target to a read: ACK, data, parity bit (R94). -/
def readAnswer (k : Ack) (d : Word) (par : Bool) : List Bool := lsbFirst k ++ lsbFirst d ++ [par]

/-- The answer of a target to a write: the ACK (R94). -/
def writeAnswer (k : Ack) : List Bool := lsbFirst k

/-- Eight driven header cycles and the turnaround. -/
def headerTrace (apndp rnw : Bool) (a : RegAddr) : List Cycle :=
  (lsbFirst (header apndp rnw a)).map Cycle.driven ++ [Cycle.released]

/-- The 33 driven cycles of a data phase. -/
def dataTrace (data : Word) : List Cycle :=
  (lsbFirst data).map Cycle.driven ++ [Cycle.driven (parity data)]

/-- The cycles of a read (R94) whose 36 sampled levels are `bits`. -/
def readTrace (apndp : Bool) (a : RegAddr) (bits : List Bool) : List Cycle :=
  headerTrace apndp true a ++ bits.map Cycle.sampled ++ [Cycle.released]

/-- The cycles of a write (R94) whose three sampled levels are `bits`. -/
def writeTrace (apndp : Bool) (a : RegAddr) (data : Word) (bits : List Bool) : List Cycle :=
  headerTrace apndp false a ++ bits.map Cycle.sampled ++ [Cycle.released] ++ dataTrace data

/-- The cycles of TARGETSEL (R94). -/
def targetselTrace (data : Word) : List Cycle :=
  (lsbFirst 0x99#8).map Cycle.driven ++ List.replicate 5 Cycle.released ++ dataTrace data

/-- One transaction of `connect` and the levels that the target answers it with. -/
structure Exchange where
  rnw : Bool
  apndp : Bool
  a : RegAddr
  /-- The word written; a read has none. -/
  data : Word
  levels : List Bool
deriving DecidableEq, Repr

/-- Its 46 cycles (R94). -/
def Exchange.trace (x : Exchange) : List Cycle :=
  if x.rnw = true then readTrace x.apndp x.a x.levels else writeTrace x.apndp x.a x.data x.levels

/-- A read that is answered with OK, a word and a parity bit. -/
def okRead (apndp : Bool) (a : RegAddr) (v : Word × Bool) : Exchange :=
  { rnw := true, apndp := apndp, a := a, data := 0#32, levels := readAnswer 0b001#3 v.1 v.2 }

/-- A write that is answered with OK. -/
def okWrite (apndp : Bool) (a : RegAddr) (data : Word) : Exchange :=
  { rnw := false, apndp := apndp, a := a, data := data, levels := writeAnswer 0b001#3 }

/-- The transactions of steps 4 to 10 of `connect` in order (R264 to R270), each answered with OK: DPIDR, ABORT, SELECT,
CTRL/STAT, the polls, SELECT, the posted IDR read, RDBUF, SELECT. Addresses and bank words are PRESUMED, log entry 3. -/
def connectScript (apsel : BitVec 8) (dpidr : Word × Bool) (polls : List (Word × Bool)) (stale idr : Word × Bool) :
    List Exchange :=
  [okRead false 0b00#2 dpidr, okWrite false 0b00#2 0x0000001E#32, okWrite false 0b10#2 0x00000000#32,
    okWrite false 0b01#2 0x50000001#32]
  ++ polls.map (okRead false 0b01#2)
  ++ [okWrite false 0b10#2 (0x000000F0#32 ||| (apsel.setWidth 32 <<< 24)), okRead true 0b11#2 stale,
    okRead false 0b11#2 idr, okWrite false 0b10#2 (apsel.setWidth 32 <<< 24)]

/-- `s` after `n` cycles in which SWDIO was sampled, as far as the environment's side of the wire is concerned. -/
def tookBits (n : Nat) (s : State) : State :=
  { s with swdioIn := s.swdioIn.drop n, draws := s.draws + (n - s.swdioIn.length) }

/-- The cost in SWCLK cycles of a run of DMI accesses, each OK throughout, when the address of the access before the
run is `last` (R304, R306): a TAR write unless the access before had the same address; then two more packets for a
read and one more for a write. -/
def accessCycles (last : Option DmiAddr) : List Event → Nat
  | [] => 0
  | .dmiRead addr :: rest => (if last = some addr then 0 else 46) + 92 + accessCycles (some addr) rest
  | .dmiWrite addr _ :: rest => (if last = some addr then 0 else 46) + 46 + accessCycles (some addr) rest
  | _ :: rest => accessCycles last rest

/-- The call is a DMI access made without the VDTM (R15). -/
def Event.isAccess : Event → Bool
  | .dmiRead _ => true
  | .dmiWrite _ _ => true
  | _ => false

end Sys2Proof.Machine
end

