-- ==== Sys2Proof/Certificates/Slice0/Obligations.lean ====
section
/-! DEFINITION. The statements for the provers, in the order of spec/'s rules. -/

open Sys2Proof Sys2Proof.Machine

/-! Encoding. -/

/-- Words written out from the tables of R90 to R94 decode to the instructions they stand for. The names at the
header's addresses are PRESUMED, log entry 3. -/
def Obligations.TableWordsDecode : Prop :=
  decode .ir 0b10001#46 = .ok .dmi ∧
  decode .ir 0b11111#46 = .ok (.undef181F 0b111#3) ∧
  decode .dmiDr 0b000100000000000000000000000000000000000110#46 = .ok (.dmiWrite 0x10#8 0x00000001#32) ∧
  decode .header 0b10001101#46 = .ok .dpCtrlstatRd ∧
  decode .header 0b10101101#46 = .error .badHeaderParity ∧
  decode .ack 0b100#46 = .ok .ackFault ∧
  decode .packet 0b10001011#46 = .ok (.swdWritePacket true 0b01#2 0#32)

/-- Decode and encode agree: the word of every well-formed instruction decodes to it. -/
def Obligations.DecodeOfEncode : Prop :=
  ∀ i : Instr, i.WellFormed → decode (encode i).1 (encode i).2 = .ok i

/-- The other direction where each word has one meaning: `ir` values, DMI values, ACKs and accepted headers. -/
def Obligations.EncodeOfDecode : Prop :=
  (∀ v : IrCode, encode (decodeIr v) = (.ir, v.setWidth 46)) ∧
  (∀ v : ShiftReg, encode (decodeDmi v) = (.dmiDr, v.setWidth 46)) ∧
  (∀ k : Ack, encode (decodeAck k) = (.ack, k.setWidth 46)) ∧
  (∀ (h : HeaderByte) (i : Instr), decodeHeader h = .ok i → encode i = (.header, h.setWidth 46))

/-- R92: the eight bits of a header in the order in which they are sent. -/
def Obligations.HeaderLayout : Prop :=
  ∀ (apndp rnw : Bool) (a : RegAddr),
    lsbFirst (header apndp rnw a) =
      [true, apndp, rnw, a.getLsbD 0, a.getLsbD 1, apndp ^^ rnw ^^ a.getLsbD 0 ^^ a.getLsbD 1, false, true]

/-- R99: the data parity bit makes the count of 1 bits among the 33 even. -/
def Obligations.DataParityIsEven : Prop :=
  ∀ v : Word, (lsbFirst v ++ [parity v]).count true % 2 = 0

/-! The JTAG side. -/

/-- What the source says of the VDTM at construction: IDCODE in `ir`, S_RESET, both upcalls unbound (R22, R24, R28).
Unbound upcalls are an inference of R28. -/
def Obligations.ConstructionState : Prop :=
  State.reset.ir = 0x01#5 ∧ State.reset.tapState = .sReset ∧
  State.reset.dmiReadBinding = .unbound ∧ State.reset.dmiWriteBinding = .unbound

/-- THE MODEL'S CHOICE, log entries 4 and 5: the construction values that the source does not state. -/
def Obligations.ConstructionChoices : Prop :=
  State.reset.shifter = 0#42 ∧ State.reset.dmiRdata = 0#32 ∧ State.reset.tck = false ∧ State.reset.tms = false ∧
  State.reset.tdi = false ∧ State.reset.tdo = false ∧ State.reset.tarCacheValid = false ∧
  State.reset.swclk = false ∧ State.reset.swdioDriven = false

/-- R165 to R170: in S_CAPTURE_DR each JTAG instruction loads the shifter from its own source and changes nothing
else; an undefined one changes nothing at all. What an undefined one captures is the reading of C3, log entry 31. -/
def Obligations.CaptureDrByInstruction : Prop :=
  ∀ s : State, s.tapState = .sCaptureDr →
    exec .bypass s = .next { s with shifter := 0#42 } ∧
    exec .idcode s = .next { s with shifter := s.idcode.setWidth 42 } ∧
    exec .dtmcs s = .next { s with shifter := 0x00000081#42 } ∧
    exec .dmi s = .next { s with shifter := s.dmiRdata.setWidth 42 <<< 2 } ∧
    (∀ k, exec (.undef0203 k) s = .next s) ∧ (∀ k, exec (.undef0407 k) s = .next s) ∧
    (∀ k, exec (.undef080F k) s = .next s) ∧ (∀ k, exec (.undef1213 k) s = .next s) ∧
    (∀ k, exec (.undef1417 k) s = .next s) ∧ (∀ k, exec (.undef181F k) s = .next s)

/-- R160 and R171: in S_SHIFT_DR every JTAG instruction moves each bit of its data register one place down, takes TDI
in at the top place, keeps nothing above, and changes nothing but the shifter. The mask is the decision D7, log entry
15. -/
def Obligations.ShiftDrByInstruction : Prop :=
  ∀ (i : Instr) (s : State), isIrInstr i = true → s.tapState = .sShiftDr →
    ∃ v : ShiftReg, exec i s = .next { s with shifter := v } ∧
      ∀ k : Nat, v.getLsbD k =
        if k + 1 < drLen (irCode i) then s.shifter.getLsbD (k + 1)
        else if k + 1 = drLen (irCode i) then s.tdi
        else false

/-- R160: the length of the data register for every code. -/
def Obligations.DrLengthOfEveryCode : Prop :=
  ∀ ir : IrCode, drLen ir = if ir = 0x01#5 ∨ ir = 0x10#5 then 32 else if ir = 0x11#5 then 42 else 1

/-- R172, R173: in S_UPDATE_DR the nine JTAG instructions other than DMI do nothing, and DMI does what the operation
held in the shifter does, which never changes the shifter. -/
def Obligations.UpdateDrByInstruction : Prop :=
  ∀ s : State, s.tapState = .sUpdateDr →
    exec .bypass s = .next s ∧ exec .idcode s = .next s ∧ exec .dtmcs s = .next s ∧
    (∀ k, exec (.undef0203 k) s = .next s) ∧ (∀ k, exec (.undef0407 k) s = .next s) ∧
    (∀ k, exec (.undef080F k) s = .next s) ∧ (∀ k, exec (.undef1213 k) s = .next s) ∧
    (∀ k, exec (.undef1417 k) s = .next s) ∧ (∀ k, exec (.undef181F k) s = .next s) ∧
    exec .dmi s = exec (decodeDmi s.shifter) s ∧
    (∀ t : State, exec .dmi s = .next t → t.shifter = s.shifter)

/-- R161 to R164, R174: outside the three DR states with an action of their own, the action is the same under every
JTAG instruction: `ir` is reset, captured, shifted or updated, or nothing happens. That nine states have no action is
an inference of R174. -/
def Obligations.ActionsCommonToAllInstructions : Prop :=
  ∀ (i : Instr) (s : State), isIrInstr i = true →
    (s.tapState = .sReset → exec i s = .next { s with ir := 0x01#5 }) ∧
    (s.tapState = .sCaptureIr → exec i s = .next { s with shifter := s.ir.setWidth 42 }) ∧
    (s.tapState = .sShiftIr →
      exec i s = .next { s with shifter := (s.shifter >>> 1) ||| ((BitVec.ofBool s.tdi).setWidth 42 <<< 4) }) ∧
    (s.tapState = .sUpdateIr → exec i s = .next { s with ir := s.shifter.setWidth 5 }) ∧
    (s.tapState.quiet = true → exec i s = .next s)

/-- R79, R135, R200: a rising edge runs the instruction in `ir`, or the DMI operation in the shifter when DMI is
dispatched, and then moves the TAP, sets `ir` on entry to S_RESET and stores the level of TCK. Setting `ir` on entry
is the choice of C5, log entry 22. -/
def Obligations.RisingEdgeRunsInstruction : Prop :=
  ∀ (s : State) (rest : List Event), s.framer = .idle → s.tck = false → s.events = .setTck true :: rest →
    (¬ (s.tapState = .sUpdateDr ∧ s.ir = 0x11#5) →
      step s = continueWith (exec (decodeIr s.ir) { s with events := rest }) finishRisingEdge) ∧
    (s.tapState = .sUpdateDr → s.ir = 0x11#5 →
      step s = continueWith (exec (decodeDmi s.shifter) { s with events := rest }) finishRisingEdge) ∧
    ∀ t : State, finishRisingEdge t =
      { t with
        tapState := nextState t.tapState t.tms, tck := true
        ir := if nextState t.tapState t.tms = .sReset then 0x01#5 else t.ir }

/-- THE MODEL'S CHOICE, log entry 10: a header or a packet called by itself is decoded and run, and the three ACK
cycles after a header are sampled, decoded and run before any other call. -/
def Obligations.FramerStepRunsInstruction : Prop :=
  ∀ (s : State) (rest : List Event),
    (∀ (h : HeaderByte) (d : Word) (i : Instr), s.framer = .idle → s.events = .swdHeader h d :: rest →
      decodeHeader h = .ok i → step s = exec i { s with events := rest, swdData := d }) ∧
    (∀ (w : PacketWord) (i : Instr), s.framer = .idle → s.events = .swdPacket w :: rest →
      decodePacket w = .ok i → step s = exec i { s with events := rest }) ∧
    (s.framer ≠ .idle →
      step s = exec (decodeAck (packLsb 3 (sampledBits 3 s)))
        { s with
          swclk := false, swdioDriven := false
          swdioIn := s.swdioIn.drop 3, draws := s.draws + (3 - s.swdioIn.length)
          wire := s.wire ++ (sampledBits 3 s).map Cycle.sampled })

/-- R130, R131: a setter stores its level and changes nothing else. -/
def Obligations.SettersStoreOnly : Prop :=
  ∀ (s : State) (v : Bool) (rest : List Event), s.framer = .idle →
    (s.events = .setTms v :: rest → step s = .next { s with events := rest, tms := v }) ∧
    (s.events = .setTdi v :: rest → step s = .next { s with events := rest, tdi := v })

/-- R132, R133, R134: a level of TCK that is there already changes nothing; a falling edge refreshes TDO from the
present state and shifter; `get_tdo` returns the latched level. -/
def Obligations.FallingEdgeAndTdo : Prop :=
  ∀ (s : State) (rest : List Event), s.framer = .idle →
    (s.events = .setTck s.tck :: rest → step s = .next { s with events := rest }) ∧
    (s.events = .setTck false :: rest → s.tck = true →
      step s = .next
        { s with
          events := rest, tck := false
          tdo := if s.tapState = .sShiftDr ∨ s.tapState = .sShiftIr then s.shifter.getLsbD 0 else false }) ∧
    (s.events = .getTdo :: rest →
      step s = .next { s with events := rest, returns := s.returns ++ [.tdo s.tdo] })

/-- R140: the 32 transitions, as a rising edge makes them. The table is PRESUMED (G1), log entry 14. -/
def Obligations.TapWalksTheTable : Prop :=
  ∀ (s t : State) (rest : List Event), s.framer = .idle → s.tck = false → s.events = .setTck true :: rest →
    step s = .next t →
    ∀ row ∈ ([
      (.sReset, .sRunIdle, .sReset), (.sRunIdle, .sRunIdle, .sSelectDr),
      (.sSelectDr, .sCaptureDr, .sSelectIr), (.sCaptureDr, .sShiftDr, .sExit1Dr),
      (.sShiftDr, .sShiftDr, .sExit1Dr), (.sExit1Dr, .sPauseDr, .sUpdateDr),
      (.sPauseDr, .sPauseDr, .sExit2Dr), (.sExit2Dr, .sShiftDr, .sUpdateDr),
      (.sUpdateDr, .sRunIdle, .sSelectDr), (.sSelectIr, .sCaptureIr, .sReset),
      (.sCaptureIr, .sShiftIr, .sExit1Ir), (.sShiftIr, .sShiftIr, .sExit1Ir),
      (.sExit1Ir, .sPauseIr, .sUpdateIr), (.sPauseIr, .sPauseIr, .sExit2Ir),
      (.sExit2Ir, .sShiftIr, .sUpdateIr), (.sUpdateIr, .sRunIdle, .sSelectDr)] :
      List (TapState × TapState × TapState)),
      s.tapState = row.1 → t.tapState = if s.tms = true then row.2.2 else row.2.1

/-- R142: with TMS = 1 the TAP reaches S_RESET after exactly the pulses that R142 counts for its state, stays there,
and holds IDCODE from the pulse that enters it on. The upcalls, if any are bound, are the bridge's. The counts follow
from the PRESUMED table, log entry 14; that `ir` is set on entry is the choice of C5 and D16, log entry 22. -/
def Obligations.TmsOnesReachReset : Prop :=
  ∀ (s : State) (n : Nat), s.framer = .idle → s.tck = false →
    s.dmiReadBinding ≠ .environment → s.dmiWriteBinding ≠ .environment →
    ∃ t : State, playCalls (tmsSeq (List.replicate n true)) s = .next t ∧
      (0 < n → t.tapState = .sReset → t.ir = 0x01#5) ∧
      ∀ row ∈ ([
        (.sReset, 0), (.sSelectIr, 1), (.sSelectDr, 2), (.sRunIdle, 3), (.sUpdateDr, 3), (.sUpdateIr, 3),
        (.sExit1Dr, 4), (.sExit2Dr, 4), (.sExit1Ir, 4), (.sExit2Ir, 4), (.sCaptureDr, 5), (.sShiftDr, 5),
        (.sPauseDr, 5), (.sCaptureIr, 5), (.sShiftIr, 5), (.sPauseIr, 5)] : List (TapState × Nat)),
        s.tapState = row.1 → (t.tapState = .sReset ↔ row.2 ≤ n)

/-- R175: from S_CAPTURE_DR, pulses with TMS = 0 show the captured value on TDO, bit by bit, and after its L bits the
TDI bits in the order in which they went in. `bits` are the TDI bits of the edges e0, e1, ... The precise form is
R175's inference; it rests on the masked shift, log entry 15. -/
def Obligations.DrScanShowsCaptureThenTdi : Prop :=
  ∀ (s : State) (bits : List Bool), s.framer = .idle → s.tck = false → s.tapState = .sCaptureDr →
    ∃ t : State, playCalls (watchedPulses bits) s = .next t ∧
      t.returns = s.returns ++ (List.range bits.length).map fun k =>
        Return.tdo (if k < drLen s.ir then (captureValue s).getLsbD k else bits.getD (k - drLen s.ir + 1) false)

/-- R361: after n shifts the data register holds the last n TDI bits above what is left of its old value; after more
shifts than it is long, the last L TDI bits. It rests on the masked shift, log entry 15. -/
def Obligations.ShiftsMixOldAndNewBits : Prop :=
  ∀ (s : State) (bits : List Bool), s.framer = .idle → s.tck = false → s.tapState = .sShiftDr →
    ∃ t : State, playCalls (bits.flatMap (pulse false)) s = .next t ∧ t.tapState = .sShiftDr ∧ t.ir = s.ir ∧
      ∀ k : Nat, k < drLen s.ir → t.shifter.getLsbD k =
        if k + bits.length < drLen s.ir then s.shifter.getLsbD (k + bits.length)
        else bits.getD (k + bits.length - drLen s.ir) false

/-- R104, R162 to R164: an IR scan puts its five bits into `ir` and shows the instruction that was in force. The path
is that of the PRESUMED table, log entry 14. -/
def Obligations.IrScanLoadsAndShowsIr : Prop :=
  ∀ (s : State) (v : IrCode), s.framer = .idle → s.tck = false → s.tapState = .sRunIdle →
    playCalls (irScan v) s = .next
      { s with
        ir := v, shifter := v.setWidth 42, tapState := .sRunIdle, tms := false, tdi := false, tdo := false
        events := [], returns := s.returns ++ (lsbFirst s.ir).map Return.tdo }

/-- R203, R207, R74: a DMI scan with op 2 makes exactly one `dmi_write` upcall with the fields of the scan, shows the
result of the last read, and is done when the scan is back in S_RUN_IDLE. The path is that of the PRESUMED table, log
entry 14. -/
def Obligations.DmiWriteScanCallsOnce : Prop :=
  ∀ (s : State) (addr : DmiAddr) (data : Word) (x : Word) (rest : List UpcallAnswer),
    s.framer = .idle → s.tck = false → s.tapState = .sRunIdle → s.ir = 0x11#5 →
    s.dmiWriteBinding = .environment → s.upcallIn = .returns x :: rest →
    playCalls (dmiScan addr data 2#2) s = .next
      { s with
        shifter := dmiWord addr data 2#2, tms := false, tdi := false, tdo := false, events := []
        upcallIn := rest, upcalls := s.upcalls ++ [.write addr data]
        returns := s.returns ++ (lsbFirst (captureDmi s.dmiRdata)).map Return.tdo }

/-- R202, R360: the value of a DMI read is not in the scan that asks for it; the next DMI scan shows it, shifted left
by two. The path is that of the PRESUMED table, log entry 14. -/
def Obligations.DmiReadAppearsOneScanLater : Prop :=
  ∀ (s : State) (addr : DmiAddr) (data : Word) (x : Word) (rest : List UpcallAnswer),
    s.framer = .idle → s.tck = false → s.tapState = .sRunIdle → s.ir = 0x11#5 →
    s.dmiReadBinding = .environment → s.upcallIn = .returns x :: rest →
    playCalls (dmiScan addr data 1#2 ++ dmiScan 0#8 0#32 0#2) s = .next
      { s with
        shifter := 0#42, dmiRdata := x, tms := false, tdi := false, tdo := false, events := []
        upcallIn := rest, upcalls := s.upcalls ++ [.read addr]
        returns := s.returns ++ (lsbFirst (captureDmi s.dmiRdata)).map Return.tdo ++
          (lsbFirst (captureDmi x)).map Return.tdo }

/-- The invariants of the VDTM and of the TAR cache hold at construction. Its last part (TDO follows the policy while
TCK is low) and the TAR cache's rest on THE MODEL'S CHOICES: TDO and TCK 0 (D2) and `tar_cache_valid` false (D3), log
entry 4; no call pending and the framer at rest, log entry 5. -/
def Obligations.InvariantsAtReset : Prop := JtagInv State.reset ∧ TarInv State.reset

/-- R22, R134, R163, R171: every step keeps the invariant of the VDTM. The first part is the choice of C5 (log entry
22), the second and third are inferences of R163 and R171. -/
def Obligations.StepKeepsJtagInv : Prop :=
  ∀ s t : State, JtagInv s → step s = .next t → JtagInv t

/-- R10, R20, R21, R28: no step changes the configuration; a binder attaches its upcall and does nothing else, and no
other step changes what an upcall is bound to. That a binder may be called at any time and what it can attach are the
choice of log entry 24. -/
def Obligations.StepKeepsConfiguration : Prop :=
  ∀ s : State,
    (∀ t : State, step s = .next t →
      t.idcode = s.idcode ∧ t.targetsel = s.targetsel ∧ t.apsel = s.apsel ∧
      (t.dmiReadBinding ≠ s.dmiReadBinding → s.framer = .idle ∧ ∃ b, s.events.head? = some (.bindRead b)) ∧
      (t.dmiWriteBinding ≠ s.dmiWriteBinding → s.framer = .idle ∧ ∃ b, s.events.head? = some (.bindWrite b))) ∧
    (∀ (b : Bool) (rest : List Event), s.framer = .idle →
      (s.events = .bindRead b :: rest →
        step s = .next { s with events := rest, dmiReadBinding := if b = true then .bridge else .environment }) ∧
      (s.events = .bindWrite b :: rest →
        step s = .next { s with events := rest, dmiWriteBinding := if b = true then .bridge else .environment }))

/-- R25: `dmi_rdata` changes only in a rising edge taken in S_UPDATE_DR with DMI in `ir`, op 1 and `dmi_read` bound. -/
def Obligations.DmiRdataWrittenByReadsOnly : Prop :=
  ∀ s t : State, step s = .next t → t.dmiRdata ≠ s.dmiRdata →
    s.framer = .idle ∧ s.events.head? = some (.setTck true) ∧ s.tck = false ∧ s.tapState = .sUpdateDr ∧
    s.ir = 0x11#5 ∧ s.shifter.extractLsb' 0 2 = 1#2 ∧ s.dmiReadBinding ≠ .unbound

/-- R22, R79: `ir` changes only in a rising edge taken in S_UPDATE_IR or in S_RESET, or in the one that enters S_RESET
from S_SELECT_IR. The third place is the choice of C5, log entry 22. -/
def Obligations.IrWrittenInThreePlacesOnly : Prop :=
  ∀ s t : State, step s = .next t → t.ir ≠ s.ir →
    s.framer = .idle ∧ s.events.head? = some (.setTck true) ∧ s.tck = false ∧
    (s.tapState = .sUpdateIr ∨ s.tapState = .sReset ∨ (s.tapState = .sSelectIr ∧ s.tms = true))

/-- R27: TDO changes only on a falling edge; R24: the TAP state only on a rising edge. -/
def Obligations.TdoAndTapChangeOnTheirEdges : Prop :=
  ∀ s t : State, step s = .next t →
    (t.tdo ≠ s.tdo → s.framer = .idle ∧ s.events.head? = some (.setTck false) ∧ s.tck = true) ∧
    (t.tapState ≠ s.tapState → s.framer = .idle ∧ s.events.head? = some (.setTck true) ∧ s.tck = false)

/-- R144, R176, R320: a step ends in a fault only in a rising edge that dispatches a DMI read or write to a function of
the environment which never returns, and in a refusal only at the destructor or at a word for the framer that decodes to
nothing, with the decoder's reason; else it has a next state. The stops are the model's: log entries 10, 25 and 26. -/
def Obligations.OnlyStops : Prop :=
  ∀ s : State,
    (∀ r : Fault, step s = .fault r →
      s.framer = .idle ∧ s.events.head? = some (.setTck true) ∧ s.tck = false ∧ s.tapState = .sUpdateDr ∧
      s.ir = 0x11#5 ∧ s.upcallIn.head? = some .hangs ∧
      ((s.shifter.extractLsb' 0 2 = 1#2 ∧ s.dmiReadBinding = .environment) ∨
        (s.shifter.extractLsb' 0 2 = 2#2 ∧ s.dmiWriteBinding = .environment))) ∧
    (∀ r : Refusal, step s = .refused r → s.framer = .idle ∧
      ((r = .destroyed ∧ s.events.head? = some .destroy) ∨
        ∃ why : DecodeError, r = .undecodable why ∧
          ((∃ h d, s.events.head? = some (.swdHeader h d) ∧ decodeHeader h = .error why) ∨
            ∃ w, s.events.head? = some (.swdPacket w) ∧ decodePacket w = .error why)))

/-! DMI operations. -/

/-- R201, R204: op 0 and op 3 do nothing. -/
def Obligations.DmiIgnoredOps : Prop :=
  ∀ (s : State) (addr : DmiAddr) (data : Word),
    exec (.dmiNop addr data) s = .next s ∧ exec (.dmiReserved addr data) s = .next s

/-- R202: op 1 with `dmi_read` unbound does nothing; bound to a function of the environment it makes one call with the
address and latches whatever comes back. The free value where the list has run out is log entry 8. -/
def Obligations.DmiReadUpcall : Prop :=
  ∀ (s : State) (addr : DmiAddr) (data : Word),
    (s.dmiReadBinding = .unbound → exec (.dmiRead addr data) s = .next s) ∧
    (∀ (x : Word) (rest : List UpcallAnswer), s.dmiReadBinding = .environment → s.upcallIn = .returns x :: rest →
      exec (.dmiRead addr data) s = .next
        { s with upcallIn := rest, upcalls := s.upcalls ++ [.read addr], dmiRdata := x }) ∧
    (s.dmiReadBinding = .environment → s.upcallIn = [] →
      ∃ x : Word, exec (.dmiRead addr data) s = .next
        { s with draws := s.draws + 1, upcalls := s.upcalls ++ [.read addr], dmiRdata := x })

/-- R203: op 2 with `dmi_write` unbound does nothing; bound to a function of the environment it makes one call with the
address and the data and changes nothing of the VDTM. That it returns where the list of answers has run out is the
choice of log entry 8. -/
def Obligations.DmiWriteUpcall : Prop :=
  ∀ (s : State) (addr : DmiAddr) (data : Word),
    (s.dmiWriteBinding = .unbound → exec (.dmiWrite addr data) s = .next s) ∧
    (∀ (x : Word) (rest : List UpcallAnswer), s.dmiWriteBinding = .environment → s.upcallIn = .returns x :: rest →
      exec (.dmiWrite addr data) s = .next
        { s with upcallIn := rest, upcalls := s.upcalls ++ [.write addr data] }) ∧
    (s.dmiWriteBinding = .environment → s.upcallIn = [] →
      exec (.dmiWrite addr data) s = .next { s with upcalls := s.upcalls ++ [.write addr data] })

/-- R176: an upcall of the environment that never returns stops the machine. The fault is the model's form of it, log
entry 25. -/
def Obligations.HangingUpcallStops : Prop :=
  ∀ (s : State) (addr : DmiAddr) (data : Word) (rest : List UpcallAnswer), s.upcallIn = .hangs :: rest →
    (s.dmiReadBinding = .environment → exec (.dmiRead addr data) s = .fault .upcallNeverReturns) ∧
    (s.dmiWriteBinding = .environment → exec (.dmiWrite addr data) s = .fault .upcallNeverReturns)

/-- R301, R302, R306: in the assembled bridge, with every ACK OK, op 1 is a TAR write unless the cache has the
address, then a DRW read whose data is discarded, then the RDBUF read whose data is latched. The register addresses
are PRESUMED, log entry 3; that an OK TAR write is remembered as what the target holds is log entry 9. -/
def Obligations.DmiReadOverSwd : Prop :=
  ∀ (s : State) (addr : DmiAddr) (data stale d : Word) (p q : Bool) (rest : List Bool),
    s.dmiReadBinding = .bridge →
    (s.tarCacheValid = true → s.tarCache = addr.setWidth 32 <<< 2 →
      s.swdioIn = readAnswer 0b001#3 stale p ++ readAnswer 0b001#3 d q ++ rest →
      exec (.dmiRead addr data) s = .next
        { s with
          dmiRdata := d, upcalls := s.upcalls ++ [.read addr], swdioIn := rest
          swclk := false, swdioDriven := false, swdioLevel := true
          wire := s.wire ++ readTrace true 0b11#2 (readAnswer 0b001#3 stale p)
            ++ readTrace false 0b11#2 (readAnswer 0b001#3 d q) }) ∧
    (¬ (s.tarCacheValid = true ∧ s.tarCache = addr.setWidth 32 <<< 2) →
      s.swdioIn = writeAnswer 0b001#3 ++ readAnswer 0b001#3 stale p ++ readAnswer 0b001#3 d q ++ rest →
      exec (.dmiRead addr data) s = .next
        { s with
          dmiRdata := d, upcalls := s.upcalls ++ [.read addr], swdioIn := rest
          tarCache := addr.setWidth 32 <<< 2, tarCacheValid := true, tarShadow := some (addr.setWidth 32 <<< 2)
          swclk := false, swdioDriven := false, swdioLevel := true
          wire := s.wire ++ writeTrace true 0b01#2 (addr.setWidth 32 <<< 2) (writeAnswer 0b001#3)
            ++ readTrace true 0b11#2 (readAnswer 0b001#3 stale p)
            ++ readTrace false 0b11#2 (readAnswer 0b001#3 d q) })

/-- R301, R303, R306: in the assembled bridge, with every ACK OK, op 2 is a TAR write unless the cache has the
address, then a DRW write, and nothing after it. The register addresses are PRESUMED, log entry 3; that an OK TAR write is
remembered as what the target holds is log entry 9. -/
def Obligations.DmiWriteOverSwd : Prop :=
  ∀ (s : State) (addr : DmiAddr) (data : Word) (rest : List Bool), s.dmiWriteBinding = .bridge →
    (s.tarCacheValid = true → s.tarCache = addr.setWidth 32 <<< 2 → s.swdioIn = writeAnswer 0b001#3 ++ rest →
      exec (.dmiWrite addr data) s = .next
        { s with
          upcalls := s.upcalls ++ [.write addr data], swdioIn := rest
          swclk := false, swdioDriven := true, swdioLevel := parity data
          wire := s.wire ++ writeTrace true 0b11#2 data (writeAnswer 0b001#3) }) ∧
    (¬ (s.tarCacheValid = true ∧ s.tarCache = addr.setWidth 32 <<< 2) →
      s.swdioIn = writeAnswer 0b001#3 ++ writeAnswer 0b001#3 ++ rest →
      exec (.dmiWrite addr data) s = .next
        { s with
          upcalls := s.upcalls ++ [.write addr data], swdioIn := rest
          tarCache := addr.setWidth 32 <<< 2, tarCacheValid := true, tarShadow := some (addr.setWidth 32 <<< 2)
          swclk := false, swdioDriven := true, swdioLevel := parity data
          wire := s.wire ++ writeTrace true 0b01#2 (addr.setWidth 32 <<< 2) (writeAnswer 0b001#3)
            ++ writeTrace true 0b11#2 data (writeAnswer 0b001#3) })

/-- R305, R323, with the decisions D8, D11 and D12, for an access whose address the TAR cache does not hold: it stops at
the first transaction that is not OK, which is clocked in full, with that ACK in the sticky mark, and completes; a failed
TAR write leaves the cache invalid, a later failure leaves it valid; the cycles show that nothing more was sent; a failed
read latches the free value of log entry 7; nothing else changes. D8, D11 and D12 are choices, log entries 16, 11 and
19; the register addresses are PRESUMED, log entry 3; that an OK TAR write is remembered as what the target holds is log
entry 9. -/
def Obligations.AccessFaultStopsTheAccess : Prop :=
  ∀ (s : State) (addr : DmiAddr) (data stale d : Word) (k : Ack) (p q : Bool) (rest : List Bool), k ≠ 0b001#3 →
    ¬ (s.tarCacheValid = true ∧ s.tarCache = addr.setWidth 32 <<< 2) →
    (s.dmiReadBinding = .bridge → s.swdioIn = writeAnswer k ++ rest →
      exec (.dmiRead addr data) s = .next
        { s with
          upcalls := s.upcalls ++ [.read addr], swdioIn := rest
          linkFault := some k, draws := s.draws + 1, dmiRdata := Config.failedReadData s.draws
          tarCacheValid := false
          swclk := false, swdioDriven := true, swdioLevel := parity (addr.setWidth 32 <<< 2)
          wire := s.wire ++ writeTrace true 0b01#2 (addr.setWidth 32 <<< 2) (writeAnswer k) }) ∧
    (s.dmiReadBinding = .bridge → s.swdioIn = writeAnswer 0b001#3 ++ readAnswer k d p ++ rest →
      exec (.dmiRead addr data) s = .next
        { s with
          upcalls := s.upcalls ++ [.read addr], swdioIn := rest
          linkFault := some k, draws := s.draws + 1, dmiRdata := Config.failedReadData s.draws
          tarCache := addr.setWidth 32 <<< 2, tarCacheValid := true, tarShadow := some (addr.setWidth 32 <<< 2)
          swclk := false, swdioDriven := false, swdioLevel := true
          wire := s.wire ++ writeTrace true 0b01#2 (addr.setWidth 32 <<< 2) (writeAnswer 0b001#3)
            ++ readTrace true 0b11#2 (readAnswer k d p) }) ∧
    (s.dmiReadBinding = .bridge → s.swdioIn = writeAnswer 0b001#3 ++ readAnswer 0b001#3 stale q ++ readAnswer k d p ++ rest →
      exec (.dmiRead addr data) s = .next
        { s with
          upcalls := s.upcalls ++ [.read addr], swdioIn := rest
          linkFault := some k, draws := s.draws + 1, dmiRdata := Config.failedReadData s.draws
          tarCache := addr.setWidth 32 <<< 2, tarCacheValid := true, tarShadow := some (addr.setWidth 32 <<< 2)
          swclk := false, swdioDriven := false, swdioLevel := true
          wire := s.wire ++ writeTrace true 0b01#2 (addr.setWidth 32 <<< 2) (writeAnswer 0b001#3)
            ++ readTrace true 0b11#2 (readAnswer 0b001#3 stale q) ++ readTrace false 0b11#2 (readAnswer k d p) }) ∧
    (s.dmiWriteBinding = .bridge → s.swdioIn = writeAnswer k ++ rest →
      exec (.dmiWrite addr data) s = .next
        { s with
          upcalls := s.upcalls ++ [.write addr data], swdioIn := rest, linkFault := some k
          tarCacheValid := false
          swclk := false, swdioDriven := true, swdioLevel := parity (addr.setWidth 32 <<< 2)
          wire := s.wire ++ writeTrace true 0b01#2 (addr.setWidth 32 <<< 2) (writeAnswer k) }) ∧
    (s.dmiWriteBinding = .bridge → s.swdioIn = writeAnswer 0b001#3 ++ writeAnswer k ++ rest →
      exec (.dmiWrite addr data) s = .next
        { s with
          upcalls := s.upcalls ++ [.write addr data], swdioIn := rest, linkFault := some k
          tarCache := addr.setWidth 32 <<< 2, tarCacheValid := true, tarShadow := some (addr.setWidth 32 <<< 2)
          swclk := false, swdioDriven := true, swdioLevel := parity data
          wire := s.wire ++ writeTrace true 0b01#2 (addr.setWidth 32 <<< 2) (writeAnswer 0b001#3)
            ++ writeTrace true 0b11#2 data (writeAnswer k) })

/-- R305, R323, with the decisions D8 and D11, for an access whose address the TAR cache holds: TAR is not written, the
access stops at the first transaction that is not OK, which is clocked in full, with that ACK in the sticky mark, and
completes; the cache stays valid; a failed read latches the free value of log entry 7; nothing else changes. D8 and D11
are choices, log entries 16 and 11; the register addresses are PRESUMED, log entry 3. -/
def Obligations.AccessFaultOnTarHit : Prop :=
  ∀ (s : State) (addr : DmiAddr) (data stale d : Word) (k : Ack) (p q : Bool) (rest : List Bool), k ≠ 0b001#3 →
    s.tarCacheValid = true → s.tarCache = addr.setWidth 32 <<< 2 →
    (s.dmiReadBinding = .bridge → s.swdioIn = readAnswer k d p ++ rest →
      exec (.dmiRead addr data) s = .next
        { s with
          upcalls := s.upcalls ++ [.read addr], swdioIn := rest
          linkFault := some k, draws := s.draws + 1, dmiRdata := Config.failedReadData s.draws
          swclk := false, swdioDriven := false, swdioLevel := true
          wire := s.wire ++ readTrace true 0b11#2 (readAnswer k d p) }) ∧
    (s.dmiReadBinding = .bridge → s.swdioIn = readAnswer 0b001#3 stale q ++ readAnswer k d p ++ rest →
      exec (.dmiRead addr data) s = .next
        { s with
          upcalls := s.upcalls ++ [.read addr], swdioIn := rest
          linkFault := some k, draws := s.draws + 1, dmiRdata := Config.failedReadData s.draws
          swclk := false, swdioDriven := false, swdioLevel := true
          wire := s.wire ++ readTrace true 0b11#2 (readAnswer 0b001#3 stale q)
            ++ readTrace false 0b11#2 (readAnswer k d p) }) ∧
    (s.dmiWriteBinding = .bridge → s.swdioIn = writeAnswer k ++ rest →
      exec (.dmiWrite addr data) s = .next
        { s with
          upcalls := s.upcalls ++ [.write addr data], swdioIn := rest, linkFault := some k
          swclk := false, swdioDriven := true, swdioLevel := parity data
          wire := s.wire ++ writeTrace true 0b11#2 data (writeAnswer k) })

/-- R15, R302, R303: `DmiRead` and `DmiWrite` called by themselves do what the bridge's upcalls do, cycle by cycle and
whatever the target answers, but touch no VDTM and count as no upcall; `DmiRead` hands back the value that the upcall
would latch: with every ACK OK, the word that the RDBUF read brings. That an access completes after an ACK other than OK
is the choice D11, log entry 11; what a failed `DmiRead` then hands back is the free value of log entry 7. -/
def Obligations.DirectAccesses : Prop :=
  ∀ (s : State) (addr : DmiAddr) (data stale d : Word) (p q : Bool) (rest : List Event) (more : List Bool),
    s.framer = .idle →
    (s.events = .dmiRead addr :: rest →
      ∃ u : State, exec (.dmiRead addr data) { s with events := rest, dmiReadBinding := .bridge } = .next u ∧
        step s = .next
          { u with
            dmiReadBinding := s.dmiReadBinding, dmiRdata := s.dmiRdata, upcalls := s.upcalls
            returns := s.returns ++ [.dmiRead u.dmiRdata] }) ∧
    (s.events = .dmiWrite addr data :: rest →
      ∃ u : State, exec (.dmiWrite addr data) { s with events := rest, dmiWriteBinding := .bridge } = .next u ∧
        step s = .next { u with dmiWriteBinding := s.dmiWriteBinding, upcalls := s.upcalls }) ∧
    (s.events = .dmiRead addr :: rest → s.tarCacheValid = true → s.tarCache = addr.setWidth 32 <<< 2 →
      s.swdioIn = readAnswer 0b001#3 stale p ++ readAnswer 0b001#3 d q ++ more →
      ∃ t : State, step s = .next t ∧ t.returns = s.returns ++ [.dmiRead d] ∧ t.swdioIn = more ∧
        t.linkFault = s.linkFault) ∧
    (s.events = .dmiRead addr :: rest → ¬ (s.tarCacheValid = true ∧ s.tarCache = addr.setWidth 32 <<< 2) →
      s.swdioIn = writeAnswer 0b001#3 ++ readAnswer 0b001#3 stale p ++ readAnswer 0b001#3 d q ++ more →
      ∃ t : State, step s = .next t ∧ t.returns = s.returns ++ [.dmiRead d] ∧ t.swdioIn = more ∧
        t.linkFault = s.linkFault)

/-- R205, R327: in the assembled bridge a DMI operation always completes, whatever the target answers; it tells the JTAG
host nothing and, of the VDTM, writes no register, level or binding but (op 1) `dmi_rdata` (`idcode` is
StepKeepsConfiguration's). The record of the last word that the target accepted for SELECT (log entry 9) stays as it was;
that no write to SELECT is sent at all (R307) is to be read from the wires of DmiReadOverSwd, DmiWriteOverSwd,
AccessFaultStopsTheAccess and AccessFaultOnTarHit. That a failed access completes is the choice D11, log entry 11. -/
def Obligations.DmiOverSwdAlwaysCompletes : Prop :=
  ∀ (s : State) (addr : DmiAddr) (data : Word),
    (s.dmiReadBinding = .bridge → ∃ t, exec (.dmiRead addr data) s = .next t ∧
      t.upcalls = s.upcalls ++ [.read addr] ∧ t.returns = s.returns ∧ t.selectShadow = s.selectShadow ∧
      t.ir = s.ir ∧ t.shifter = s.shifter ∧ t.tapState = s.tapState ∧ t.tck = s.tck ∧ t.tms = s.tms ∧
      t.tdi = s.tdi ∧ t.tdo = s.tdo ∧ t.dmiReadBinding = s.dmiReadBinding ∧ t.dmiWriteBinding = s.dmiWriteBinding) ∧
    (s.dmiWriteBinding = .bridge → ∃ t, exec (.dmiWrite addr data) s = .next t ∧
      t.upcalls = s.upcalls ++ [.write addr data] ∧ t.returns = s.returns ∧ t.selectShadow = s.selectShadow ∧
      t.dmiRdata = s.dmiRdata ∧ t.ir = s.ir ∧ t.shifter = s.shifter ∧ t.tapState = s.tapState ∧ t.tck = s.tck ∧
      t.tms = s.tms ∧ t.tdi = s.tdi ∧ t.tdo = s.tdo ∧ t.dmiReadBinding = s.dmiReadBinding ∧
      t.dmiWriteBinding = s.dmiWriteBinding)

/-- R304, R306: over any run of DMI accesses after a `connect` (cache invalid) in which no ACK fails, a TAR write is
sent for exactly those accesses whose address differs from that of the access before; counted in SWCLK cycles. The
precise form is R304's inference. -/
def Obligations.TarCacheLaw : Prop :=
  ∀ (s t : State) (es : List Event), (∀ e ∈ es, e.isAccess = true) → s.framer = .idle →
    s.tarCacheValid = false → s.linkFault = none → playCalls es s = .next t → t.linkFault = none →
    t.wire.length = s.wire.length + accessCycles none es

/-! The packet framer. -/

/-- R92, R102, R230, R231: each of the eight read headers, and each write header but TARGETSEL's, drives its byte and
one turnaround, and an ACK is due; nothing else changes. The register names are PRESUMED, log entry 3; that the ACK is a
step of its own is log entry 10. -/
def Obligations.HeadersOnTheWire : Prop :=
  (∀ (s : State), ∀ row ∈ ([
      (.dpDpidrRd, 0xA5#8), (.dpCtrlstatRd, 0x8D#8), (.hdrDpRdA2, 0x95#8), (.dpRdbufRd, 0xBD#8),
      (.hdrApRdA0, 0x87#8), (.hdrApRdA1, 0xAF#8), (.hdrApRdA2, 0xB7#8), (.apIdrDrwRd, 0x9F#8)] :
      List (Instr × HeaderByte)),
    exec row.1 s = .next
      { s with
        swclk := false, swdioDriven := false, swdioLevel := true, framer := .reading
        wire := s.wire ++ (lsbFirst row.2).map Cycle.driven ++ [Cycle.released] }) ∧
  ∀ (s : State), ∀ row ∈ ([
      (.dpAbortWr, 0x81#8, false, 0b00#2), (.dpCtrlstatWr, 0xA9#8, false, 0b01#2),
      (.dpSelectWr, 0xB1#8, false, 0b10#2), (.hdrApWrA0, 0xA3#8, true, 0b00#2), (.apTarWr, 0x8B#8, true, 0b01#2),
      (.hdrApWrA2, 0x93#8, true, 0b10#2), (.apDrwWr, 0xBB#8, true, 0b11#2)] :
      List (Instr × HeaderByte × Bool × RegAddr)),
    exec row.1 s = .next
      { s with
        swclk := false, swdioDriven := false, swdioLevel := true, framer := .writing row.2.2.1 row.2.2.2
        wire := s.wire ++ (lsbFirst row.2.1).map Cycle.driven ++ [Cycle.released] }

/-- R232: TARGETSEL: the header 0x99, five released cycles, data, parity; nothing is sampled and nothing is returned.
As a packet its data is the packet's, as a header by itself the data word placed with the header (log entry 10). -/
def Obligations.TargetselOnTheWire : Prop :=
  ∀ (s : State) (data : Word),
    exec (.swdTargetselPacket data) s = .next
      { s with
        swclk := false, swdioDriven := true, swdioLevel := parity data
        wire := s.wire ++ (lsbFirst 0x99#8).map Cycle.driven ++ List.replicate 5 Cycle.released
          ++ (lsbFirst data).map Cycle.driven ++ [Cycle.driven (parity data)] } ∧
    exec .dpTargetselWr s = .next
      { s with
        swclk := false, swdioDriven := true, swdioLevel := parity s.swdData
        wire := s.wire ++ (lsbFirst 0x99#8).map Cycle.driven ++ List.replicate 5 Cycle.released
          ++ (lsbFirst s.swdData).map Cycle.driven ++ [Cycle.driven (parity s.swdData)] }

/-- R230: a read clocks 46 cycles whatever the ACK; the first three sampled levels are the ACK, the next 32 the data,
the last is thrown away; only pins and wire change, and the status and the data are handed back. The full 46 cycles
are the decision D8, log entry 16. -/
def Obligations.ReadPacketOnTheWire : Prop :=
  ∀ (s : State) (apndp : Bool) (a : RegAddr) (k : Ack) (d : Word) (par : Bool),
    sampledBits 36 s = readAnswer k d par →
    exec (.swdReadPacket apndp a) s = .next
      { s with
        swclk := false, swdioDriven := false, swdioLevel := true
        swdioIn := s.swdioIn.drop 36, draws := s.draws + (36 - s.swdioIn.length)
        wire := s.wire ++ ((lsbFirst (header apndp true a)).map Cycle.driven ++ [Cycle.released]
          ++ (lsbFirst k).map Cycle.sampled ++ (lsbFirst d).map Cycle.sampled ++ [Cycle.sampled par]
          ++ [Cycle.released])
        returns := s.returns ++ [.swdRead (if k = 0b001#3 then .ok else .notOk k) d] }

/-- R231: a write clocks 46 cycles and drives its data whatever the ACK; an OK write to SELECT or TAR is remembered as
what the target holds (log entry 9), and the status is handed back. The addresses of SELECT and TAR are PRESUMED, log
entry 3; the full 46 cycles are the decision D8, log entry 16. -/
def Obligations.WritePacketOnTheWire : Prop :=
  ∀ (s : State) (apndp : Bool) (a : RegAddr) (data : Word) (k : Ack), sampledBits 3 s = writeAnswer k →
    exec (.swdWritePacket apndp a data) s = .next
      { s with
        swclk := false, swdioDriven := true, swdioLevel := parity data
        swdioIn := s.swdioIn.drop 3, draws := s.draws + (3 - s.swdioIn.length)
        wire := s.wire ++ ((lsbFirst (header apndp false a)).map Cycle.driven ++ [Cycle.released]
          ++ (lsbFirst k).map Cycle.sampled ++ [Cycle.released] ++ (lsbFirst data).map Cycle.driven
          ++ [Cycle.driven (parity data)])
        selectShadow := if k = 0b001#3 ∧ apndp = false ∧ a = 0b10#2 then some data else s.selectShadow
        tarShadow := if k = 0b001#3 ∧ apndp = true ∧ a = 0b01#2 then some data else s.tarShadow
        returns := s.returns ++ [.swdWrite (if k = 0b001#3 then .ok else .notOk k)] }

/-- R93, R226: the eight ACKs. After a read header the data phase is clocked whatever the value, and status and data
are handed back; after a write header the data word is driven whatever the value, and the status is handed back; with
no transaction open the status alone is. An OK write to SELECT or TAR is remembered as what the target holds, the model's
choice of log entry 9, at addresses that are PRESUMED, log entry 3. The full data phase is the decision D8, log entry 16;
that an ACK is a step of its own is log entry 10. -/
def Obligations.AckEndsTheTransaction : Prop :=
  ∀ (s : State), ∀ row ∈ ([
      (.ackOk, 0b001#3), (.ackWait, 0b010#3), (.ackFault, 0b100#3), (.ackDisconnected, 0b111#3),
      (.ack000, 0b000#3), (.ack011, 0b011#3), (.ack101, 0b101#3), (.ack110, 0b110#3)] : List (Instr × Ack)),
    (s.framer = .reading → ∀ (d : Word) (par : Bool), sampledBits 33 s = lsbFirst d ++ [par] →
      exec row.1 s = .next
        { s with
          swclk := false, swdioDriven := false, framer := .idle
          swdioIn := s.swdioIn.drop 33, draws := s.draws + (33 - s.swdioIn.length)
          wire := s.wire ++ (lsbFirst d).map Cycle.sampled ++ [Cycle.sampled par] ++ [Cycle.released]
          returns := s.returns ++ [.swdRead (if row.2 = 0b001#3 then .ok else .notOk row.2) d] }) ∧
    (∀ (apndp : Bool) (a : RegAddr), s.framer = .writing apndp a →
      exec row.1 s = .next
        { s with
          swclk := false, swdioDriven := true, swdioLevel := parity s.swdData, framer := .idle
          wire := s.wire ++ [Cycle.released] ++ (lsbFirst s.swdData).map Cycle.driven
            ++ [Cycle.driven (parity s.swdData)]
          selectShadow := if row.2 = 0b001#3 ∧ apndp = false ∧ a = 0b10#2 then some s.swdData else s.selectShadow
          tarShadow := if row.2 = 0b001#3 ∧ apndp = true ∧ a = 0b01#2 then some s.swdData else s.tarShadow
          returns := s.returns ++ [.swdWrite (if row.2 = 0b001#3 then .ok else .notOk row.2)] }) ∧
    (s.framer = .idle →
      exec row.1 s = .next
        { s with returns := s.returns ++ [.swdAck (if row.2 = 0b001#3 then .ok else .notOk row.2)] })

/-- R230, R231: a header and the ACK after it, run as two steps, are the packet run as one. The two steps are the
model's, log entry 10. -/
def Obligations.HeaderThenAckIsThePacket : Prop :=
  ∀ (s : State) (apndp : Bool) (a : RegAddr) (data : Word) (rest : List Event), s.framer = .idle →
    (s.events = .swdHeader (header apndp true a) data :: rest →
      run 2 s = exec (.swdReadPacket apndp a) { s with events := rest, swdData := data }) ∧
    (s.events = .swdHeader (header apndp false a) data :: rest → ¬ (apndp = false ∧ a = 0b11#2) →
      run 2 s = exec (.swdWritePacket apndp a data) { s with events := rest, swdData := data })

/-- R225: a wrong parity bit of a read changes nothing but the record of that one cycle: the two wires are the same
before it, in it one shows the right level and one the wrong one, and after it both have the last turnaround alone.
That the cycle is there after an ACK other than OK is the choice D8, log entry 16. -/
def Obligations.ReadParityIsNotChecked : Prop :=
  ∀ (s t u : State) (apndp : Bool) (a : RegAddr) (k : Ack) (d : Word) (rest : List Bool),
    exec (.swdReadPacket apndp a) { s with swdioIn := readAnswer k d (parity d) ++ rest } = .next t →
    exec (.swdReadPacket apndp a) { s with swdioIn := readAnswer k d (! parity d) ++ rest } = .next u →
    t.returns = u.returns ∧ { t with wire := [] } = { u with wire := [] } ∧
    ∃ before : List Cycle, before.length = s.wire.length + 44 ∧
      t.wire = before ++ [Cycle.sampled (parity d)] ++ [Cycle.released] ∧
      u.wire = before ++ [Cycle.sampled (! parity d)] ++ [Cycle.released]

/-- R233: what a transaction samples, returns and puts on the wire depends on nothing that an earlier one has left in
the state, only on its operands and on the target's answers to come. -/
def Obligations.PacketLayerHasNoMemory : Prop :=
  ∀ (s t : State) (apndp : Bool) (a : RegAddr) (data : Word), s.swdioIn = t.swdioIn → s.draws = t.draws →
    (swdRead apndp a s).ack = (swdRead apndp a t).ack ∧ (swdRead apndp a s).data = (swdRead apndp a t).data ∧
    (swdWrite apndp a data s).ack = (swdWrite apndp a data t).ack ∧
    (∃ w, (swdRead apndp a s).state.wire = s.wire ++ w ∧ (swdRead apndp a t).state.wire = t.wire ++ w) ∧
    (∃ w, (swdWrite apndp a data s).state.wire = s.wire ++ w ∧ (swdWrite apndp a data t).state.wire = t.wire ++ w)

/-! The link. -/

/-- R95: the preamble is the 35 bytes, bit 0 first, less the last four bits; its parts are those of R95's table. -/
def Obligations.PreambleParts : Prop :=
  preambleBits.length = 276 ∧
  preambleBits =
    ((0x03FFFFFFFFFFFF01A019BC0EA2E3DDAFE986852D956209F392FFE3BCFFFFFFFFFFFFFF#280 : BitVec 280) |>
      lsbFirst).take 276 ∧
  preambleBits = List.replicate 56 true ++ lsbFirst 0xE3BC#16 ++ lsbFirst 0xFF#8
    ++ lsbFirst 0x19BC0EA2E3DDAFE986852D956209F392#128 ++ lsbFirst 0x0#4 ++ lsbFirst 0x1A#8 ++ lsbFirst 0x0#4
    ++ List.replicate 50 true ++ lsbFirst 0x0#2

/-- R262 to R271: a `connect` that meets OK throughout, whose power-up poll passes on its last read and whose AP is a
Mem-AP, returns 0, has put exactly the preamble and the transactions of steps 3 to 10 on the wire, 276 + 46 × (8 + k)
cycles and 46 more with TARGETSEL, and leaves SELECT at the Mem-AP's bank. Each read has a parity bit of its own, right
or wrong. That the passing read may be the 10000th (9999 polls before it) is the decision D10, log entry 18, unsafe by one
read at that bound. The register addresses and the CTRL/STAT and bank words are PRESUMED, log entry 3; that the sticky
mark is cleared is the choice D11, log entry 11; what SELECT holds is the record of log entry 9. -/
def Obligations.ConnectSucceeds : Prop :=
  ∀ (s : State) (rest : List Event) (dpidr stale idr last : Word) (p q r u : Bool) (polls : List (Word × Bool))
    (more : List Bool), s.framer = .idle → s.events = .connect :: rest → polls.length < 10000 →
    (∀ v ∈ polls, poweredUp v.1 = false) → poweredUp last = true → isMemAp idr = true →
    s.swdioIn = readAnswer 0b001#3 dpidr p ++ writeAnswer 0b001#3 ++ writeAnswer 0b001#3 ++ writeAnswer 0b001#3
      ++ polls.flatMap (fun v => readAnswer 0b001#3 v.1 v.2) ++ readAnswer 0b001#3 last u
      ++ writeAnswer 0b001#3 ++ readAnswer 0b001#3 stale q ++ readAnswer 0b001#3 idr r ++ writeAnswer 0b001#3
      ++ more →
    ∃ t : State, step s = .next t ∧ t.returns = s.returns ++ [.connect 0] ∧ t.linkFault = none ∧
      t.tarCacheValid = false ∧ t.selectShadow = some (selectValue 0#32 s.apsel) ∧ t.swdioIn = more ∧
      t.swclk = false ∧
      t.wire = s.wire ++ preambleBits.map Cycle.driven
        ++ (if s.targetsel = 0#32 then [] else targetselTrace s.targetsel)
        ++ readTrace false 0b00#2 (readAnswer 0b001#3 dpidr p)
        ++ writeTrace false 0b00#2 0x0000001E#32 (writeAnswer 0b001#3)
        ++ writeTrace false 0b10#2 0x00000000#32 (writeAnswer 0b001#3)
        ++ writeTrace false 0b01#2 0x50000001#32 (writeAnswer 0b001#3)
        ++ polls.flatMap (fun v => readTrace false 0b01#2 (readAnswer 0b001#3 v.1 v.2))
        ++ readTrace false 0b01#2 (readAnswer 0b001#3 last u)
        ++ writeTrace false 0b10#2 (0x000000F0#32 ||| (s.apsel.setWidth 32 <<< 24)) (writeAnswer 0b001#3)
        ++ readTrace true 0b11#2 (readAnswer 0b001#3 stale q) ++ readTrace false 0b11#2 (readAnswer 0b001#3 idr r)
        ++ writeTrace false 0b10#2 (s.apsel.setWidth 32 <<< 24) (writeAnswer 0b001#3) ∧
      t.wire.length = s.wire.length + 276 + (if s.targetsel = 0#32 then 0 else 46) + 46 * (8 + (polls.length + 1))

/-- R34, R270, R305, R328, R329: every `connect` completes with one of two results. With 0, SELECT holds the Mem-AP's
bank, the sticky mark is clear; with 1, the mark is as it was; in both the TAR cache is invalid, SWCLK is low, and the
VDTM, its bindings and the upcalls made are untouched. The status 1 and the cause are the choice D13, log entry 20; that
success alone clears the mark is the choice D11, log entry 11; SELECT's check is C6, log entry 23; what SELECT holds is
the record of log entry 9. -/
def Obligations.ConnectResult : Prop :=
  ∀ (s : State) (rest : List Event), s.framer = .idle → s.events = .connect :: rest →
    ∃ t : State, step s = .next t ∧
      ((t.returns = s.returns ++ [.connect 0] ∧ t.linkFault = none ∧ t.connectCause = none ∧
          t.selectShadow = some (selectValue 0#32 s.apsel)) ∨
        (t.returns = s.returns ++ [.connect 1] ∧ t.linkFault = s.linkFault ∧ t.connectCause ≠ none)) ∧
      t.tarCacheValid = false ∧ t.swclk = false ∧ t.swclkOutput = true ∧
      t.ir = s.ir ∧ t.shifter = s.shifter ∧ t.tapState = s.tapState ∧ t.dmiRdata = s.dmiRdata ∧ t.tck = s.tck ∧
      t.tms = s.tms ∧ t.tdi = s.tdi ∧ t.tdo = s.tdo ∧ t.dmiReadBinding = s.dmiReadBinding ∧
      t.dmiWriteBinding = s.dmiWriteBinding ∧ t.upcalls = s.upcalls

/-- R272: what `connect` returns and puts on the wire depends on no state left by an earlier call, only on the
configuration and on the target's answers to come. -/
def Obligations.ConnectDependsOnNoEarlierState : Prop :=
  ∀ s t : State, s.targetsel = t.targetsel → s.apsel = t.apsel → s.swdioIn = t.swdioIn → s.draws = t.draws →
    (connect s).connectCause = (connect t).connectCause ∧
    (∃ r, (connect s).returns = s.returns ++ [r] ∧ (connect t).returns = t.returns ++ [r]) ∧
    (∃ w, (connect s).wire = s.wire ++ w ∧ (connect t).wire = t.wire ++ w)

/-- R264 to R270, R321, R326, R328: where every transaction of a `connect` up to the n-th is answered as `connectScript`
has it and the n-th, whichever of steps 4 to 10 it belongs to, is answered with an ACK other than OK, `connect` ends
there with LinkFault, whatever the data bits are: the n-th is the last transaction on the wire. That the failing packet
is clocked in full is the decision D8, log entry 16; that the SELECT and CTRL/STAT writes are checked is C6, log entry
23; the status 1 is D13, log entry 20; that the mark stays is D11, log entry 11; that a 10000th poll may pass and the
transactions after it follow is D10, log entry 18, unsafe by one read at that bound; addresses and bank words are
PRESUMED, log entry 3. -/
def Obligations.ConnectStopsAtFirstLinkFault : Prop :=
  ∀ (s : State) (rest : List Event) (dpidr last stale idr : Word × Bool) (polls : List (Word × Bool)) (n : Nat)
    (x : Exchange) (bad more : List Bool), s.framer = .idle → s.events = .connect :: rest → polls.length < 10000 →
    (∀ v ∈ polls, poweredUp v.1 = false) → poweredUp last.1 = true → isMemAp idr.1 = true →
    (connectScript s.apsel dpidr (polls ++ [last]) stale idr)[n]? = some x →
    bad.length = x.levels.length → bad.take 3 ≠ lsbFirst 0b001#3 →
    s.swdioIn = ((connectScript s.apsel dpidr (polls ++ [last]) stale idr).take n).flatMap Exchange.levels
      ++ bad ++ more →
    ∃ t : State, step s = .next t ∧ t.returns = s.returns ++ [.connect 1] ∧ t.connectCause = some .linkFault ∧
      t.linkFault = s.linkFault ∧ t.tarCacheValid = false ∧ t.swdioIn = more ∧
      t.wire = s.wire ++ preambleBits.map Cycle.driven
        ++ (if s.targetsel = 0#32 then [] else targetselTrace s.targetsel)
        ++ ((connectScript s.apsel dpidr (polls ++ [last]) stale idr).take n).flatMap Exchange.trace
        ++ Exchange.trace { x with levels := bad }

/-- R268, R321: after the four bring-up packets, 10000 polls that are OK but never show both acknowledge bits end
`connect` with PowerUpTimeout; nothing is sent after the 10000th. Each read has a parity bit of its own. The bound is the
decision D10, log entry 18; the status 1 and the recorded cause are D13, log entry 20; the places of the acknowledge bits
are PRESUMED, log entry 3. -/
def Obligations.PowerUpPollTimesOut : Prop :=
  ∀ (s : State) (rest : List Event) (dpidr : Word) (p : Bool) (polls : List (Word × Bool)) (more : List Bool),
    s.framer = .idle → s.events = .connect :: rest → polls.length = 10000 →
    (∀ v ∈ polls, poweredUp v.1 = false) →
    s.swdioIn = readAnswer 0b001#3 dpidr p ++ writeAnswer 0b001#3 ++ writeAnswer 0b001#3 ++ writeAnswer 0b001#3
      ++ polls.flatMap (fun v => readAnswer 0b001#3 v.1 v.2) ++ more →
    ∃ t : State, step s = .next t ∧ t.returns = s.returns ++ [.connect 1] ∧
      t.connectCause = some .powerUpTimeout ∧ t.swdioIn = more ∧
      t.wire.length = s.wire.length + 276 + (if s.targetsel = 0#32 then 0 else 46) + 46 * 10004

/-- R269, R328: an AP that is no Mem-AP ends step 9 with WrongAP, and SELECT still holds the IDR bank; and a `connect`
that has come so far returns 1 there: the RDBUF read is the last transaction on the wire, the SELECT write of step 10 is
not sent. Each read has a parity bit of its own. The IDR bank and the addresses are PRESUMED, log entry 3; the status 1
and the recorded cause are D13, log entry 20; that the mark stays is D11, log entry 11; that the passing poll may be the
10000th is D10, log entry 18, unsafe by one read at that bound; what SELECT holds is the record of log entry 9. -/
def Obligations.WrongApEndsIdentification : Prop :=
  (∀ (s : State) (stale idr : Word × Bool) (more : List Bool), isMemAp idr.1 = false →
    s.swdioIn = writeAnswer 0b001#3 ++ readAnswer 0b001#3 stale.1 stale.2 ++ readAnswer 0b001#3 idr.1 idr.2 ++ more →
    (stepIdentify s).cause = some .wrongAp ∧
    (stepIdentify s).state.selectShadow = some (selectValue 0x000000F0#32 s.apsel) ∧
    (stepIdentify s).state.wire = s.wire
      ++ writeTrace false 0b10#2 (selectValue 0x000000F0#32 s.apsel) (writeAnswer 0b001#3)
      ++ readTrace true 0b11#2 (readAnswer 0b001#3 stale.1 stale.2)
      ++ readTrace false 0b11#2 (readAnswer 0b001#3 idr.1 idr.2)) ∧
  (∀ (s : State) (rest : List Event) (dpidr last stale idr : Word × Bool) (polls : List (Word × Bool))
    (more : List Bool), s.framer = .idle → s.events = .connect :: rest → polls.length < 10000 →
    (∀ v ∈ polls, poweredUp v.1 = false) → poweredUp last.1 = true → isMemAp idr.1 = false →
    s.swdioIn = (connectScript s.apsel dpidr (polls ++ [last]) stale idr).dropLast.flatMap Exchange.levels ++ more →
    ∃ t : State, step s = .next t ∧ t.returns = s.returns ++ [.connect 1] ∧ t.connectCause = some .wrongAp ∧
      t.linkFault = s.linkFault ∧ t.tarCacheValid = false ∧ t.swdioIn = more ∧
      t.selectShadow = some (selectValue 0x000000F0#32 s.apsel) ∧
      t.wire = s.wire ++ preambleBits.map Cycle.driven
        ++ (if s.targetsel = 0#32 then [] else targetselTrace s.targetsel)
        ++ (connectScript s.apsel dpidr (polls ++ [last]) stale idr).dropLast.flatMap Exchange.trace)

/-- R40, R268, R269: the identification test looks at the class and the type alone, the power-up test at the two
acknowledge bits alone. The places of the latter are PRESUMED, log entry 3. -/
def Obligations.ConnectTestsReadTheseBits : Prop :=
  (∀ idr : Word, isMemAp idr = true ↔ idr.extractLsb' 13 4 = 8#4 ∧ idr.extractLsb' 0 4 = 2#4) ∧
  ∀ v : Word, poweredUp v = (v.getLsbD 31 && v.getLsbD 29)

/-! The TAR cache. -/

/-- R31, R64: every step keeps the invariant of the TAR cache: when valid, it holds the value last successfully
written to TAR, the byte address of a DMI address. Clearing the flag on a failed write is the choice D12, log entry
19; what was last written to TAR is the record of log entry 9, at an address that is PRESUMED, log entry 3. -/
def Obligations.StepKeepsTarInv : Prop :=
  ∀ s t : State, TarInv s → step s = .next t → TarInv t

/-- R31, R80: a valid cache becomes invalid only in a `connect` or in a DMI access, called by itself or by the dispatch of
a rising edge, whose TAR write got an ACK other than OK: that write is all that the step has put on the wire, and its ACK
is the sticky mark. The second way is the choice D12, log entry 19; that the failing write is clocked in full is D8, log
entry 16; the mark is D11, log entry 11; TAR's address is PRESUMED, log entry 3. -/
def Obligations.CacheInvalidatedByConnectOrFault : Prop :=
  ∀ s t : State, step s = .next t → s.tarCacheValid = true → t.tarCacheValid = false →
    s.framer = .idle ∧
    (s.events.head? = some .connect ∨
      ∃ (addr : DmiAddr) (k : Ack), k ≠ 0b001#3 ∧ t.linkFault = some k ∧
        t.wire = s.wire ++ writeTrace true 0b01#2 (addr.setWidth 32 <<< 2) (writeAnswer k) ∧
        (s.events.head? = some (.dmiRead addr) ∨ (∃ data, s.events.head? = some (.dmiWrite addr data)) ∨
          (s.events.head? = some (.setTck true) ∧ s.tck = false ∧ s.tapState = .sUpdateDr ∧ s.ir = 0x11#5 ∧
            s.shifter.extractLsb' 34 8 = addr ∧
            ((s.shifter.extractLsb' 0 2 = 1#2 ∧ s.dmiReadBinding = .bridge) ∨
              (s.shifter.extractLsb' 0 2 = 2#2 ∧ s.dmiWriteBinding = .bridge)))))

/-! The grain of the agents. -/

/-- R18, R73, R75, R223: from any state between events, the steps of the agents, one for the event and then, while the
SWD-DMI is called, one for each SWCLK cycle, come to what `step` says of the whole event. Between two cycles the bridge
has a state of its own: one more cycle on the wire than before, nothing handed back, and the VDTM waiting as it was when
the call came. That an event is one step of `step` is the choice of log entry 1. -/
def Obligations.CycleStepsMakeTheEvent : Prop :=
  ∀ s : State, ∃ n : Nat,
    cycleRun (n + 1) ⟨s, none⟩ = betweenEvents (step s) ∧
    (∀ u : State, step s = .next u → 0 < n → u.wire.length = s.wire.length + n) ∧
    ∀ k < n, ∃ (t : State) (j : SwdJob), cycleRun (k + 1) ⟨s, none⟩ = .next ⟨t, some j⟩ ∧
      t.wire.length = s.wire.length + k ∧ (∀ u : State, step s = .next u → t.wire <+: u.wire) ∧
      t.ir = s.ir ∧ t.shifter = s.shifter ∧ t.tapState = s.tapState ∧ t.dmiRdata = s.dmiRdata ∧ t.tck = s.tck ∧
      t.tms = s.tms ∧ t.tdi = s.tdi ∧ t.tdo = s.tdo ∧ t.returns = s.returns
end

