-- ==== Sys2Proof/Laws/Bits.lean ====
section
/-! SUPPORT. Bits in transmission order: packing undoes unpacking, and the header byte as the spec writes it. -/

namespace Sys2Proof.Machine

@[simp] theorem lsbFirst_length {w : Nat} (v : BitVec w) : (lsbFirst v).length = w := by
  simp [lsbFirst]

theorem lsbFirst_getElem {w : Nat} (v : BitVec w) (i : Nat) (h : i < (lsbFirst v).length) :
    (lsbFirst v)[i] = v.getLsbD i := by
  simp [lsbFirst]

theorem natOfBits_testBit (bs : List Bool) (i : Nat) : (natOfBits bs).testBit i = bs.getD i false := by
  induction bs generalizing i with
  | nil => simp [natOfBits]
  | cons b bs ih =>
    cases i with
    | zero => cases b <;> simp [natOfBits, Nat.testBit_zero]
    | succ i =>
      have h : (b.toNat + 2 * natOfBits bs) / 2 = natOfBits bs := by cases b <;> simp; omega
      simp [natOfBits, Nat.testBit_succ, h, ih]

theorem packLsb_getLsbD (w : Nat) (bs : List Bool) (i : Nat) :
    (packLsb w bs).getLsbD i = (decide (i < w) && bs.getD i false) := by
  simp [packLsb, BitVec.getLsbD_ofNat, natOfBits_testBit]

@[simp] theorem packLsb_lsbFirst {w : Nat} (v : BitVec w) : packLsb w (lsbFirst v) = v := by
  apply BitVec.eq_of_getLsbD_eq
  intro i hi
  rw [packLsb_getLsbD, List.getD_eq_getElem _ _ (by simpa using hi), lsbFirst_getElem]
  simp [hi]

theorem packLsb_lsbFirst_append {w : Nat} (v : BitVec w) (rest : List Bool) :
    packLsb w ((lsbFirst v ++ rest).take w) = v := by
  rw [List.take_left' (lsbFirst_length v), packLsb_lsbFirst]

/-- The last bit of every header is the park bit (R92). -/
theorem lsbFirst_header_getLast (p r : Bool) (a : RegAddr) :
    (lsbFirst (header p r a)).getLast? = some true := by
  revert a; cases p <;> cases r <;> decide

/-- TARGETSEL's header is 0x99 (R232). -/
theorem header_targetsel : header false false aTargetsel = 0x99#8 := by decide

@[simp] theorem ackIsOk_ackValueOk : ackIsOk ackValueOk = true := rfl

theorem ackIsOk_iff (k : Ack) : ackIsOk k = true ↔ k = ackValueOk := by simp [ackIsOk]

@[simp] theorem preambleBits_length : preambleBits.length = 276 := by
  simp [preambleBits, preambleBytes, preambleLength]

end Sys2Proof.Machine
end

