-- ==== Sys2Proof/Laws/State.lean ====
section
/-! SUPPORT. What each named update of the state does to each field: one lemma a field, true by unfolding. -/

namespace Sys2Proof.Machine

@[simp] theorem answer_idcode (r : Return) (s : State) : (answer r s).idcode = s.idcode := rfl
@[simp] theorem answer_ir (r : Return) (s : State) : (answer r s).ir = s.ir := rfl
@[simp] theorem answer_shifter (r : Return) (s : State) : (answer r s).shifter = s.shifter := rfl
@[simp] theorem answer_tapState (r : Return) (s : State) : (answer r s).tapState = s.tapState := rfl
@[simp] theorem answer_dmiRdata (r : Return) (s : State) : (answer r s).dmiRdata = s.dmiRdata := rfl
@[simp] theorem answer_tck (r : Return) (s : State) : (answer r s).tck = s.tck := rfl
@[simp] theorem answer_tms (r : Return) (s : State) : (answer r s).tms = s.tms := rfl
@[simp] theorem answer_tdi (r : Return) (s : State) : (answer r s).tdi = s.tdi := rfl
@[simp] theorem answer_tdo (r : Return) (s : State) : (answer r s).tdo = s.tdo := rfl
@[simp] theorem answer_dmiReadBinding (r : Return) (s : State) : (answer r s).dmiReadBinding = s.dmiReadBinding := rfl
@[simp] theorem answer_dmiWriteBinding (r : Return) (s : State) : (answer r s).dmiWriteBinding = s.dmiWriteBinding := rfl
@[simp] theorem answer_targetsel (r : Return) (s : State) : (answer r s).targetsel = s.targetsel := rfl
@[simp] theorem answer_apsel (r : Return) (s : State) : (answer r s).apsel = s.apsel := rfl
@[simp] theorem answer_tarCache (r : Return) (s : State) : (answer r s).tarCache = s.tarCache := rfl
@[simp] theorem answer_tarCacheValid (r : Return) (s : State) : (answer r s).tarCacheValid = s.tarCacheValid := rfl
@[simp] theorem answer_swclkOutput (r : Return) (s : State) : (answer r s).swclkOutput = s.swclkOutput := rfl
@[simp] theorem answer_swclk (r : Return) (s : State) : (answer r s).swclk = s.swclk := rfl
@[simp] theorem answer_swdioConfigured (r : Return) (s : State) : (answer r s).swdioConfigured = s.swdioConfigured := rfl
@[simp] theorem answer_swdioDriven (r : Return) (s : State) : (answer r s).swdioDriven = s.swdioDriven := rfl
@[simp] theorem answer_swdioLevel (r : Return) (s : State) : (answer r s).swdioLevel = s.swdioLevel := rfl
@[simp] theorem answer_linkFault (r : Return) (s : State) : (answer r s).linkFault = s.linkFault := rfl
@[simp] theorem answer_connectCause (r : Return) (s : State) : (answer r s).connectCause = s.connectCause := rfl
@[simp] theorem answer_framer (r : Return) (s : State) : (answer r s).framer = s.framer := rfl
@[simp] theorem answer_swdData (r : Return) (s : State) : (answer r s).swdData = s.swdData := rfl
@[simp] theorem answer_selectShadow (r : Return) (s : State) : (answer r s).selectShadow = s.selectShadow := rfl
@[simp] theorem answer_tarShadow (r : Return) (s : State) : (answer r s).tarShadow = s.tarShadow := rfl
@[simp] theorem answer_events (r : Return) (s : State) : (answer r s).events = s.events := rfl
@[simp] theorem answer_swdioIn (r : Return) (s : State) : (answer r s).swdioIn = s.swdioIn := rfl
@[simp] theorem answer_upcallIn (r : Return) (s : State) : (answer r s).upcallIn = s.upcallIn := rfl
@[simp] theorem answer_draws (r : Return) (s : State) : (answer r s).draws = s.draws := rfl
@[simp] theorem answer_wire (r : Return) (s : State) : (answer r s).wire = s.wire := rfl
@[simp] theorem answer_upcalls (r : Return) (s : State) : (answer r s).upcalls = s.upcalls := rfl
@[simp] theorem answer_returns (r : Return) (s : State) : (answer r s).returns = s.returns ++ [r] := rfl

/-- `put_bits` in one piece: what its cycles come to. -/
theorem putBits_eq (bits : List Bool) (s : State) :
    putBits bits s =
      { s with
        swclk := false, swdioDriven := true, swdioLevel := bits.getLast?.getD s.swdioLevel
        wire := s.wire ++ bits.map Cycle.driven } := by
  unfold putBits
  suffices h : ∀ u : State, u.swclk = false → u.swdioDriven = true →
      (swclkCycles (bits.map Line.drive) u).2 =
        { u with swdioLevel := bits.getLast?.getD u.swdioLevel, wire := u.wire ++ bits.map Cycle.driven } from
    h _ rfl rfl
  induction bits with
  | nil => intro u hc hd; simp [swclkCycles]
  | cons b bs ih =>
    intro u hc hd
    simp only [List.map_cons, swclkCycles]
    rw [ih _ rfl rfl]
    cases u
    simp only at hc hd
    subst hc hd
    simp [swclkCycle, List.getLast?_cons]

/-- The first of the next levels is what SWDIO shows now. -/
theorem sampledBits_succ (n : Nat) (s : State) :
    sampledBits (n + 1) s = swdioNow s :: sampledBits n (swclkCycle .sample s) := by
  cases h : s.swdioIn with
  | nil =>
    simp [sampledBits, swdioNow, swclkCycle, h, List.range_succ_eq_map, Function.comp_def]
    intro a _; congr 1; omega
  | cons b bs => simp [sampledBits, swdioNow, swclkCycle, h]

/-- `get_bits` in one piece. -/
theorem getBits_eq (n : Nat) (s : State) :
    getBits n s =
      (sampledBits n s,
        { s with
          swclk := false, swdioDriven := false, swdioIn := s.swdioIn.drop n
          draws := s.draws + (n - s.swdioIn.length)
          wire := s.wire ++ (sampledBits n s).map Cycle.sampled }) := by
  unfold getBits
  suffices h : ∀ u : State, u.swclk = false → u.swdioDriven = false →
      swclkCycles (List.replicate n Line.sample) u =
        (sampledBits n u,
          { u with
            swdioIn := u.swdioIn.drop n, draws := u.draws + (n - u.swdioIn.length)
            wire := u.wire ++ (sampledBits n u).map Cycle.sampled }) from
    h _ rfl rfl
  induction n with
  | zero => intro u hc hd; simp [swclkCycles, sampledBits]
  | succ n ih =>
    intro u hc hd
    simp only [List.replicate_succ, swclkCycles]
    rw [ih _ rfl rfl, sampledBits_succ]
    cases u
    simp only at hc hd
    subst hc hd
    simp [swclkCycle, levelsIn, Nat.add_comm]
    omega

/-- `hiz_clocks` in one piece. -/
theorem hizClocks_eq (n : Nat) (s : State) :
    hizClocks n s =
      { s with swclk := false, swdioDriven := false, wire := s.wire ++ List.replicate n Cycle.released } := by
  unfold hizClocks
  suffices h : ∀ u : State, u.swclk = false → u.swdioDriven = false →
      (swclkCycles (List.replicate n Line.release) u).2 = { u with wire := u.wire ++ List.replicate n Cycle.released } from
    h _ rfl rfl
  induction n with
  | zero => intro u hc hd; simp [swclkCycles]
  | succ n ih =>
    intro u hc hd
    simp only [List.replicate_succ, swclkCycles]
    rw [ih _ rfl rfl]
    cases u
    simp only at hc hd
    subst hc hd
    simp [swclkCycle]

@[simp] theorem putBits_idcode (bits : List Bool) (s : State) : (putBits bits s).idcode = s.idcode := by rw [putBits_eq]
@[simp] theorem putBits_ir (bits : List Bool) (s : State) : (putBits bits s).ir = s.ir := by rw [putBits_eq]
@[simp] theorem putBits_shifter (bits : List Bool) (s : State) : (putBits bits s).shifter = s.shifter := by rw [putBits_eq]
@[simp] theorem putBits_tapState (bits : List Bool) (s : State) : (putBits bits s).tapState = s.tapState := by rw [putBits_eq]
@[simp] theorem putBits_dmiRdata (bits : List Bool) (s : State) : (putBits bits s).dmiRdata = s.dmiRdata := by rw [putBits_eq]
@[simp] theorem putBits_tck (bits : List Bool) (s : State) : (putBits bits s).tck = s.tck := by rw [putBits_eq]
@[simp] theorem putBits_tms (bits : List Bool) (s : State) : (putBits bits s).tms = s.tms := by rw [putBits_eq]
@[simp] theorem putBits_tdi (bits : List Bool) (s : State) : (putBits bits s).tdi = s.tdi := by rw [putBits_eq]
@[simp] theorem putBits_tdo (bits : List Bool) (s : State) : (putBits bits s).tdo = s.tdo := by rw [putBits_eq]
@[simp] theorem putBits_dmiReadBinding (bits : List Bool) (s : State) : (putBits bits s).dmiReadBinding = s.dmiReadBinding := by rw [putBits_eq]
@[simp] theorem putBits_dmiWriteBinding (bits : List Bool) (s : State) : (putBits bits s).dmiWriteBinding = s.dmiWriteBinding := by rw [putBits_eq]
@[simp] theorem putBits_targetsel (bits : List Bool) (s : State) : (putBits bits s).targetsel = s.targetsel := by rw [putBits_eq]
@[simp] theorem putBits_apsel (bits : List Bool) (s : State) : (putBits bits s).apsel = s.apsel := by rw [putBits_eq]
@[simp] theorem putBits_tarCache (bits : List Bool) (s : State) : (putBits bits s).tarCache = s.tarCache := by rw [putBits_eq]
@[simp] theorem putBits_tarCacheValid (bits : List Bool) (s : State) : (putBits bits s).tarCacheValid = s.tarCacheValid := by rw [putBits_eq]
@[simp] theorem putBits_swclkOutput (bits : List Bool) (s : State) : (putBits bits s).swclkOutput = s.swclkOutput := by rw [putBits_eq]
@[simp] theorem putBits_swclk (bits : List Bool) (s : State) : (putBits bits s).swclk = false := by rw [putBits_eq]
@[simp] theorem putBits_swdioConfigured (bits : List Bool) (s : State) : (putBits bits s).swdioConfigured = s.swdioConfigured := by rw [putBits_eq]
@[simp] theorem putBits_swdioDriven (bits : List Bool) (s : State) : (putBits bits s).swdioDriven = true := by rw [putBits_eq]
@[simp] theorem putBits_swdioLevel (bits : List Bool) (s : State) : (putBits bits s).swdioLevel = bits.getLast?.getD s.swdioLevel := by rw [putBits_eq]
@[simp] theorem putBits_linkFault (bits : List Bool) (s : State) : (putBits bits s).linkFault = s.linkFault := by rw [putBits_eq]
@[simp] theorem putBits_connectCause (bits : List Bool) (s : State) : (putBits bits s).connectCause = s.connectCause := by rw [putBits_eq]
@[simp] theorem putBits_framer (bits : List Bool) (s : State) : (putBits bits s).framer = s.framer := by rw [putBits_eq]
@[simp] theorem putBits_swdData (bits : List Bool) (s : State) : (putBits bits s).swdData = s.swdData := by rw [putBits_eq]
@[simp] theorem putBits_selectShadow (bits : List Bool) (s : State) : (putBits bits s).selectShadow = s.selectShadow := by rw [putBits_eq]
@[simp] theorem putBits_tarShadow (bits : List Bool) (s : State) : (putBits bits s).tarShadow = s.tarShadow := by rw [putBits_eq]
@[simp] theorem putBits_events (bits : List Bool) (s : State) : (putBits bits s).events = s.events := by rw [putBits_eq]
@[simp] theorem putBits_swdioIn (bits : List Bool) (s : State) : (putBits bits s).swdioIn = s.swdioIn := by rw [putBits_eq]
@[simp] theorem putBits_upcallIn (bits : List Bool) (s : State) : (putBits bits s).upcallIn = s.upcallIn := by rw [putBits_eq]
@[simp] theorem putBits_draws (bits : List Bool) (s : State) : (putBits bits s).draws = s.draws := by rw [putBits_eq]
@[simp] theorem putBits_wire (bits : List Bool) (s : State) : (putBits bits s).wire = s.wire ++ bits.map Cycle.driven := by rw [putBits_eq]
@[simp] theorem putBits_upcalls (bits : List Bool) (s : State) : (putBits bits s).upcalls = s.upcalls := by rw [putBits_eq]
@[simp] theorem putBits_returns (bits : List Bool) (s : State) : (putBits bits s).returns = s.returns := by rw [putBits_eq]

@[simp] theorem getBits_idcode (n : Nat) (s : State) : (getBits n s).2.idcode = s.idcode := by rw [getBits_eq]
@[simp] theorem getBits_ir (n : Nat) (s : State) : (getBits n s).2.ir = s.ir := by rw [getBits_eq]
@[simp] theorem getBits_shifter (n : Nat) (s : State) : (getBits n s).2.shifter = s.shifter := by rw [getBits_eq]
@[simp] theorem getBits_tapState (n : Nat) (s : State) : (getBits n s).2.tapState = s.tapState := by rw [getBits_eq]
@[simp] theorem getBits_dmiRdata (n : Nat) (s : State) : (getBits n s).2.dmiRdata = s.dmiRdata := by rw [getBits_eq]
@[simp] theorem getBits_tck (n : Nat) (s : State) : (getBits n s).2.tck = s.tck := by rw [getBits_eq]
@[simp] theorem getBits_tms (n : Nat) (s : State) : (getBits n s).2.tms = s.tms := by rw [getBits_eq]
@[simp] theorem getBits_tdi (n : Nat) (s : State) : (getBits n s).2.tdi = s.tdi := by rw [getBits_eq]
@[simp] theorem getBits_tdo (n : Nat) (s : State) : (getBits n s).2.tdo = s.tdo := by rw [getBits_eq]
@[simp] theorem getBits_dmiReadBinding (n : Nat) (s : State) : (getBits n s).2.dmiReadBinding = s.dmiReadBinding := by rw [getBits_eq]
@[simp] theorem getBits_dmiWriteBinding (n : Nat) (s : State) : (getBits n s).2.dmiWriteBinding = s.dmiWriteBinding := by rw [getBits_eq]
@[simp] theorem getBits_targetsel (n : Nat) (s : State) : (getBits n s).2.targetsel = s.targetsel := by rw [getBits_eq]
@[simp] theorem getBits_apsel (n : Nat) (s : State) : (getBits n s).2.apsel = s.apsel := by rw [getBits_eq]
@[simp] theorem getBits_tarCache (n : Nat) (s : State) : (getBits n s).2.tarCache = s.tarCache := by rw [getBits_eq]
@[simp] theorem getBits_tarCacheValid (n : Nat) (s : State) : (getBits n s).2.tarCacheValid = s.tarCacheValid := by rw [getBits_eq]
@[simp] theorem getBits_swclkOutput (n : Nat) (s : State) : (getBits n s).2.swclkOutput = s.swclkOutput := by rw [getBits_eq]
@[simp] theorem getBits_swclk (n : Nat) (s : State) : (getBits n s).2.swclk = false := by rw [getBits_eq]
@[simp] theorem getBits_swdioConfigured (n : Nat) (s : State) : (getBits n s).2.swdioConfigured = s.swdioConfigured := by rw [getBits_eq]
@[simp] theorem getBits_swdioDriven (n : Nat) (s : State) : (getBits n s).2.swdioDriven = false := by rw [getBits_eq]
@[simp] theorem getBits_swdioLevel (n : Nat) (s : State) : (getBits n s).2.swdioLevel = s.swdioLevel := by rw [getBits_eq]
@[simp] theorem getBits_linkFault (n : Nat) (s : State) : (getBits n s).2.linkFault = s.linkFault := by rw [getBits_eq]
@[simp] theorem getBits_connectCause (n : Nat) (s : State) : (getBits n s).2.connectCause = s.connectCause := by rw [getBits_eq]
@[simp] theorem getBits_framer (n : Nat) (s : State) : (getBits n s).2.framer = s.framer := by rw [getBits_eq]
@[simp] theorem getBits_swdData (n : Nat) (s : State) : (getBits n s).2.swdData = s.swdData := by rw [getBits_eq]
@[simp] theorem getBits_selectShadow (n : Nat) (s : State) : (getBits n s).2.selectShadow = s.selectShadow := by rw [getBits_eq]
@[simp] theorem getBits_tarShadow (n : Nat) (s : State) : (getBits n s).2.tarShadow = s.tarShadow := by rw [getBits_eq]
@[simp] theorem getBits_events (n : Nat) (s : State) : (getBits n s).2.events = s.events := by rw [getBits_eq]
@[simp] theorem getBits_swdioIn (n : Nat) (s : State) : (getBits n s).2.swdioIn = s.swdioIn.drop n := by rw [getBits_eq]
@[simp] theorem getBits_upcallIn (n : Nat) (s : State) : (getBits n s).2.upcallIn = s.upcallIn := by rw [getBits_eq]
@[simp] theorem getBits_draws (n : Nat) (s : State) : (getBits n s).2.draws = s.draws + (n - s.swdioIn.length) := by rw [getBits_eq]
@[simp] theorem getBits_wire (n : Nat) (s : State) : (getBits n s).2.wire = s.wire ++ (sampledBits n s).map Cycle.sampled := by rw [getBits_eq]
@[simp] theorem getBits_upcalls (n : Nat) (s : State) : (getBits n s).2.upcalls = s.upcalls := by rw [getBits_eq]
@[simp] theorem getBits_returns (n : Nat) (s : State) : (getBits n s).2.returns = s.returns := by rw [getBits_eq]

@[simp] theorem hizClocks_idcode (n : Nat) (s : State) : (hizClocks n s).idcode = s.idcode := by rw [hizClocks_eq]
@[simp] theorem hizClocks_ir (n : Nat) (s : State) : (hizClocks n s).ir = s.ir := by rw [hizClocks_eq]
@[simp] theorem hizClocks_shifter (n : Nat) (s : State) : (hizClocks n s).shifter = s.shifter := by rw [hizClocks_eq]
@[simp] theorem hizClocks_tapState (n : Nat) (s : State) : (hizClocks n s).tapState = s.tapState := by rw [hizClocks_eq]
@[simp] theorem hizClocks_dmiRdata (n : Nat) (s : State) : (hizClocks n s).dmiRdata = s.dmiRdata := by rw [hizClocks_eq]
@[simp] theorem hizClocks_tck (n : Nat) (s : State) : (hizClocks n s).tck = s.tck := by rw [hizClocks_eq]
@[simp] theorem hizClocks_tms (n : Nat) (s : State) : (hizClocks n s).tms = s.tms := by rw [hizClocks_eq]
@[simp] theorem hizClocks_tdi (n : Nat) (s : State) : (hizClocks n s).tdi = s.tdi := by rw [hizClocks_eq]
@[simp] theorem hizClocks_tdo (n : Nat) (s : State) : (hizClocks n s).tdo = s.tdo := by rw [hizClocks_eq]
@[simp] theorem hizClocks_dmiReadBinding (n : Nat) (s : State) : (hizClocks n s).dmiReadBinding = s.dmiReadBinding := by rw [hizClocks_eq]
@[simp] theorem hizClocks_dmiWriteBinding (n : Nat) (s : State) : (hizClocks n s).dmiWriteBinding = s.dmiWriteBinding := by rw [hizClocks_eq]
@[simp] theorem hizClocks_targetsel (n : Nat) (s : State) : (hizClocks n s).targetsel = s.targetsel := by rw [hizClocks_eq]
@[simp] theorem hizClocks_apsel (n : Nat) (s : State) : (hizClocks n s).apsel = s.apsel := by rw [hizClocks_eq]
@[simp] theorem hizClocks_tarCache (n : Nat) (s : State) : (hizClocks n s).tarCache = s.tarCache := by rw [hizClocks_eq]
@[simp] theorem hizClocks_tarCacheValid (n : Nat) (s : State) : (hizClocks n s).tarCacheValid = s.tarCacheValid := by rw [hizClocks_eq]
@[simp] theorem hizClocks_swclkOutput (n : Nat) (s : State) : (hizClocks n s).swclkOutput = s.swclkOutput := by rw [hizClocks_eq]
@[simp] theorem hizClocks_swclk (n : Nat) (s : State) : (hizClocks n s).swclk = false := by rw [hizClocks_eq]
@[simp] theorem hizClocks_swdioConfigured (n : Nat) (s : State) : (hizClocks n s).swdioConfigured = s.swdioConfigured := by rw [hizClocks_eq]
@[simp] theorem hizClocks_swdioDriven (n : Nat) (s : State) : (hizClocks n s).swdioDriven = false := by rw [hizClocks_eq]
@[simp] theorem hizClocks_swdioLevel (n : Nat) (s : State) : (hizClocks n s).swdioLevel = s.swdioLevel := by rw [hizClocks_eq]
@[simp] theorem hizClocks_linkFault (n : Nat) (s : State) : (hizClocks n s).linkFault = s.linkFault := by rw [hizClocks_eq]
@[simp] theorem hizClocks_connectCause (n : Nat) (s : State) : (hizClocks n s).connectCause = s.connectCause := by rw [hizClocks_eq]
@[simp] theorem hizClocks_framer (n : Nat) (s : State) : (hizClocks n s).framer = s.framer := by rw [hizClocks_eq]
@[simp] theorem hizClocks_swdData (n : Nat) (s : State) : (hizClocks n s).swdData = s.swdData := by rw [hizClocks_eq]
@[simp] theorem hizClocks_selectShadow (n : Nat) (s : State) : (hizClocks n s).selectShadow = s.selectShadow := by rw [hizClocks_eq]
@[simp] theorem hizClocks_tarShadow (n : Nat) (s : State) : (hizClocks n s).tarShadow = s.tarShadow := by rw [hizClocks_eq]
@[simp] theorem hizClocks_events (n : Nat) (s : State) : (hizClocks n s).events = s.events := by rw [hizClocks_eq]
@[simp] theorem hizClocks_swdioIn (n : Nat) (s : State) : (hizClocks n s).swdioIn = s.swdioIn := by rw [hizClocks_eq]
@[simp] theorem hizClocks_upcallIn (n : Nat) (s : State) : (hizClocks n s).upcallIn = s.upcallIn := by rw [hizClocks_eq]
@[simp] theorem hizClocks_draws (n : Nat) (s : State) : (hizClocks n s).draws = s.draws := by rw [hizClocks_eq]
@[simp] theorem hizClocks_wire (n : Nat) (s : State) : (hizClocks n s).wire = s.wire ++ List.replicate n Cycle.released := by rw [hizClocks_eq]
@[simp] theorem hizClocks_upcalls (n : Nat) (s : State) : (hizClocks n s).upcalls = s.upcalls := by rw [hizClocks_eq]
@[simp] theorem hizClocks_returns (n : Nat) (s : State) : (hizClocks n s).returns = s.returns := by rw [hizClocks_eq]

@[simp] theorem accessFault_idcode (k : Ack) (s : State) : (accessFault k s).idcode = s.idcode := rfl
@[simp] theorem accessFault_ir (k : Ack) (s : State) : (accessFault k s).ir = s.ir := rfl
@[simp] theorem accessFault_shifter (k : Ack) (s : State) : (accessFault k s).shifter = s.shifter := rfl
@[simp] theorem accessFault_tapState (k : Ack) (s : State) : (accessFault k s).tapState = s.tapState := rfl
@[simp] theorem accessFault_dmiRdata (k : Ack) (s : State) : (accessFault k s).dmiRdata = s.dmiRdata := rfl
@[simp] theorem accessFault_tck (k : Ack) (s : State) : (accessFault k s).tck = s.tck := rfl
@[simp] theorem accessFault_tms (k : Ack) (s : State) : (accessFault k s).tms = s.tms := rfl
@[simp] theorem accessFault_tdi (k : Ack) (s : State) : (accessFault k s).tdi = s.tdi := rfl
@[simp] theorem accessFault_tdo (k : Ack) (s : State) : (accessFault k s).tdo = s.tdo := rfl
@[simp] theorem accessFault_dmiReadBinding (k : Ack) (s : State) : (accessFault k s).dmiReadBinding = s.dmiReadBinding := rfl
@[simp] theorem accessFault_dmiWriteBinding (k : Ack) (s : State) : (accessFault k s).dmiWriteBinding = s.dmiWriteBinding := rfl
@[simp] theorem accessFault_targetsel (k : Ack) (s : State) : (accessFault k s).targetsel = s.targetsel := rfl
@[simp] theorem accessFault_apsel (k : Ack) (s : State) : (accessFault k s).apsel = s.apsel := rfl
@[simp] theorem accessFault_tarCache (k : Ack) (s : State) : (accessFault k s).tarCache = s.tarCache := rfl
@[simp] theorem accessFault_tarCacheValid (k : Ack) (s : State) : (accessFault k s).tarCacheValid = s.tarCacheValid := rfl
@[simp] theorem accessFault_swclkOutput (k : Ack) (s : State) : (accessFault k s).swclkOutput = s.swclkOutput := rfl
@[simp] theorem accessFault_swclk (k : Ack) (s : State) : (accessFault k s).swclk = s.swclk := rfl
@[simp] theorem accessFault_swdioConfigured (k : Ack) (s : State) : (accessFault k s).swdioConfigured = s.swdioConfigured := rfl
@[simp] theorem accessFault_swdioDriven (k : Ack) (s : State) : (accessFault k s).swdioDriven = s.swdioDriven := rfl
@[simp] theorem accessFault_swdioLevel (k : Ack) (s : State) : (accessFault k s).swdioLevel = s.swdioLevel := rfl
@[simp] theorem accessFault_linkFault (k : Ack) (s : State) : (accessFault k s).linkFault = some k := rfl
@[simp] theorem accessFault_connectCause (k : Ack) (s : State) : (accessFault k s).connectCause = s.connectCause := rfl
@[simp] theorem accessFault_framer (k : Ack) (s : State) : (accessFault k s).framer = s.framer := rfl
@[simp] theorem accessFault_swdData (k : Ack) (s : State) : (accessFault k s).swdData = s.swdData := rfl
@[simp] theorem accessFault_selectShadow (k : Ack) (s : State) : (accessFault k s).selectShadow = s.selectShadow := rfl
@[simp] theorem accessFault_tarShadow (k : Ack) (s : State) : (accessFault k s).tarShadow = s.tarShadow := rfl
@[simp] theorem accessFault_events (k : Ack) (s : State) : (accessFault k s).events = s.events := rfl
@[simp] theorem accessFault_swdioIn (k : Ack) (s : State) : (accessFault k s).swdioIn = s.swdioIn := rfl
@[simp] theorem accessFault_upcallIn (k : Ack) (s : State) : (accessFault k s).upcallIn = s.upcallIn := rfl
@[simp] theorem accessFault_draws (k : Ack) (s : State) : (accessFault k s).draws = s.draws := rfl
@[simp] theorem accessFault_wire (k : Ack) (s : State) : (accessFault k s).wire = s.wire := rfl
@[simp] theorem accessFault_upcalls (k : Ack) (s : State) : (accessFault k s).upcalls = s.upcalls := rfl
@[simp] theorem accessFault_returns (k : Ack) (s : State) : (accessFault k s).returns = s.returns := rfl

@[simp] theorem connectFailed_idcode (c : Cause) (s : State) : (connectFailed c s).idcode = s.idcode := rfl
@[simp] theorem connectFailed_ir (c : Cause) (s : State) : (connectFailed c s).ir = s.ir := rfl
@[simp] theorem connectFailed_shifter (c : Cause) (s : State) : (connectFailed c s).shifter = s.shifter := rfl
@[simp] theorem connectFailed_tapState (c : Cause) (s : State) : (connectFailed c s).tapState = s.tapState := rfl
@[simp] theorem connectFailed_dmiRdata (c : Cause) (s : State) : (connectFailed c s).dmiRdata = s.dmiRdata := rfl
@[simp] theorem connectFailed_tck (c : Cause) (s : State) : (connectFailed c s).tck = s.tck := rfl
@[simp] theorem connectFailed_tms (c : Cause) (s : State) : (connectFailed c s).tms = s.tms := rfl
@[simp] theorem connectFailed_tdi (c : Cause) (s : State) : (connectFailed c s).tdi = s.tdi := rfl
@[simp] theorem connectFailed_tdo (c : Cause) (s : State) : (connectFailed c s).tdo = s.tdo := rfl
@[simp] theorem connectFailed_dmiReadBinding (c : Cause) (s : State) : (connectFailed c s).dmiReadBinding = s.dmiReadBinding := rfl
@[simp] theorem connectFailed_dmiWriteBinding (c : Cause) (s : State) : (connectFailed c s).dmiWriteBinding = s.dmiWriteBinding := rfl
@[simp] theorem connectFailed_targetsel (c : Cause) (s : State) : (connectFailed c s).targetsel = s.targetsel := rfl
@[simp] theorem connectFailed_apsel (c : Cause) (s : State) : (connectFailed c s).apsel = s.apsel := rfl
@[simp] theorem connectFailed_tarCache (c : Cause) (s : State) : (connectFailed c s).tarCache = s.tarCache := rfl
@[simp] theorem connectFailed_tarCacheValid (c : Cause) (s : State) : (connectFailed c s).tarCacheValid = s.tarCacheValid := rfl
@[simp] theorem connectFailed_swclkOutput (c : Cause) (s : State) : (connectFailed c s).swclkOutput = s.swclkOutput := rfl
@[simp] theorem connectFailed_swclk (c : Cause) (s : State) : (connectFailed c s).swclk = s.swclk := rfl
@[simp] theorem connectFailed_swdioConfigured (c : Cause) (s : State) : (connectFailed c s).swdioConfigured = s.swdioConfigured := rfl
@[simp] theorem connectFailed_swdioDriven (c : Cause) (s : State) : (connectFailed c s).swdioDriven = s.swdioDriven := rfl
@[simp] theorem connectFailed_swdioLevel (c : Cause) (s : State) : (connectFailed c s).swdioLevel = s.swdioLevel := rfl
@[simp] theorem connectFailed_linkFault (c : Cause) (s : State) : (connectFailed c s).linkFault = s.linkFault := rfl
@[simp] theorem connectFailed_connectCause (c : Cause) (s : State) : (connectFailed c s).connectCause = some c := rfl
@[simp] theorem connectFailed_framer (c : Cause) (s : State) : (connectFailed c s).framer = s.framer := rfl
@[simp] theorem connectFailed_swdData (c : Cause) (s : State) : (connectFailed c s).swdData = s.swdData := rfl
@[simp] theorem connectFailed_selectShadow (c : Cause) (s : State) : (connectFailed c s).selectShadow = s.selectShadow := rfl
@[simp] theorem connectFailed_tarShadow (c : Cause) (s : State) : (connectFailed c s).tarShadow = s.tarShadow := rfl
@[simp] theorem connectFailed_events (c : Cause) (s : State) : (connectFailed c s).events = s.events := rfl
@[simp] theorem connectFailed_swdioIn (c : Cause) (s : State) : (connectFailed c s).swdioIn = s.swdioIn := rfl
@[simp] theorem connectFailed_upcallIn (c : Cause) (s : State) : (connectFailed c s).upcallIn = s.upcallIn := rfl
@[simp] theorem connectFailed_draws (c : Cause) (s : State) : (connectFailed c s).draws = s.draws := rfl
@[simp] theorem connectFailed_wire (c : Cause) (s : State) : (connectFailed c s).wire = s.wire := rfl
@[simp] theorem connectFailed_upcalls (c : Cause) (s : State) : (connectFailed c s).upcalls = s.upcalls := rfl
@[simp] theorem connectFailed_returns (c : Cause) (s : State) : (connectFailed c s).returns = s.returns ++ [.connect 1] := rfl

@[simp] theorem connectSucceeded_idcode (s : State) : (connectSucceeded s).idcode = s.idcode := rfl
@[simp] theorem connectSucceeded_ir (s : State) : (connectSucceeded s).ir = s.ir := rfl
@[simp] theorem connectSucceeded_shifter (s : State) : (connectSucceeded s).shifter = s.shifter := rfl
@[simp] theorem connectSucceeded_tapState (s : State) : (connectSucceeded s).tapState = s.tapState := rfl
@[simp] theorem connectSucceeded_dmiRdata (s : State) : (connectSucceeded s).dmiRdata = s.dmiRdata := rfl
@[simp] theorem connectSucceeded_tck (s : State) : (connectSucceeded s).tck = s.tck := rfl
@[simp] theorem connectSucceeded_tms (s : State) : (connectSucceeded s).tms = s.tms := rfl
@[simp] theorem connectSucceeded_tdi (s : State) : (connectSucceeded s).tdi = s.tdi := rfl
@[simp] theorem connectSucceeded_tdo (s : State) : (connectSucceeded s).tdo = s.tdo := rfl
@[simp] theorem connectSucceeded_dmiReadBinding (s : State) : (connectSucceeded s).dmiReadBinding = s.dmiReadBinding := rfl
@[simp] theorem connectSucceeded_dmiWriteBinding (s : State) : (connectSucceeded s).dmiWriteBinding = s.dmiWriteBinding := rfl
@[simp] theorem connectSucceeded_targetsel (s : State) : (connectSucceeded s).targetsel = s.targetsel := rfl
@[simp] theorem connectSucceeded_apsel (s : State) : (connectSucceeded s).apsel = s.apsel := rfl
@[simp] theorem connectSucceeded_tarCache (s : State) : (connectSucceeded s).tarCache = s.tarCache := rfl
@[simp] theorem connectSucceeded_tarCacheValid (s : State) : (connectSucceeded s).tarCacheValid = s.tarCacheValid := rfl
@[simp] theorem connectSucceeded_swclkOutput (s : State) : (connectSucceeded s).swclkOutput = s.swclkOutput := rfl
@[simp] theorem connectSucceeded_swclk (s : State) : (connectSucceeded s).swclk = s.swclk := rfl
@[simp] theorem connectSucceeded_swdioConfigured (s : State) : (connectSucceeded s).swdioConfigured = s.swdioConfigured := rfl
@[simp] theorem connectSucceeded_swdioDriven (s : State) : (connectSucceeded s).swdioDriven = s.swdioDriven := rfl
@[simp] theorem connectSucceeded_swdioLevel (s : State) : (connectSucceeded s).swdioLevel = s.swdioLevel := rfl
@[simp] theorem connectSucceeded_linkFault (s : State) : (connectSucceeded s).linkFault = none := rfl
@[simp] theorem connectSucceeded_connectCause (s : State) : (connectSucceeded s).connectCause = none := rfl
@[simp] theorem connectSucceeded_framer (s : State) : (connectSucceeded s).framer = s.framer := rfl
@[simp] theorem connectSucceeded_swdData (s : State) : (connectSucceeded s).swdData = s.swdData := rfl
@[simp] theorem connectSucceeded_selectShadow (s : State) : (connectSucceeded s).selectShadow = s.selectShadow := rfl
@[simp] theorem connectSucceeded_tarShadow (s : State) : (connectSucceeded s).tarShadow = s.tarShadow := rfl
@[simp] theorem connectSucceeded_events (s : State) : (connectSucceeded s).events = s.events := rfl
@[simp] theorem connectSucceeded_swdioIn (s : State) : (connectSucceeded s).swdioIn = s.swdioIn := rfl
@[simp] theorem connectSucceeded_upcallIn (s : State) : (connectSucceeded s).upcallIn = s.upcallIn := rfl
@[simp] theorem connectSucceeded_draws (s : State) : (connectSucceeded s).draws = s.draws := rfl
@[simp] theorem connectSucceeded_wire (s : State) : (connectSucceeded s).wire = s.wire := rfl
@[simp] theorem connectSucceeded_upcalls (s : State) : (connectSucceeded s).upcalls = s.upcalls := rfl
@[simp] theorem connectSucceeded_returns (s : State) : (connectSucceeded s).returns = s.returns ++ [.connect 0] := rfl

@[simp] theorem stepInitialise_idcode (s : State) : (stepInitialise s).idcode = s.idcode := rfl
@[simp] theorem stepInitialise_ir (s : State) : (stepInitialise s).ir = s.ir := rfl
@[simp] theorem stepInitialise_shifter (s : State) : (stepInitialise s).shifter = s.shifter := rfl
@[simp] theorem stepInitialise_tapState (s : State) : (stepInitialise s).tapState = s.tapState := rfl
@[simp] theorem stepInitialise_dmiRdata (s : State) : (stepInitialise s).dmiRdata = s.dmiRdata := rfl
@[simp] theorem stepInitialise_tck (s : State) : (stepInitialise s).tck = s.tck := rfl
@[simp] theorem stepInitialise_tms (s : State) : (stepInitialise s).tms = s.tms := rfl
@[simp] theorem stepInitialise_tdi (s : State) : (stepInitialise s).tdi = s.tdi := rfl
@[simp] theorem stepInitialise_tdo (s : State) : (stepInitialise s).tdo = s.tdo := rfl
@[simp] theorem stepInitialise_dmiReadBinding (s : State) : (stepInitialise s).dmiReadBinding = s.dmiReadBinding := rfl
@[simp] theorem stepInitialise_dmiWriteBinding (s : State) : (stepInitialise s).dmiWriteBinding = s.dmiWriteBinding := rfl
@[simp] theorem stepInitialise_targetsel (s : State) : (stepInitialise s).targetsel = s.targetsel := rfl
@[simp] theorem stepInitialise_apsel (s : State) : (stepInitialise s).apsel = s.apsel := rfl
@[simp] theorem stepInitialise_tarCache (s : State) : (stepInitialise s).tarCache = s.tarCache := rfl
@[simp] theorem stepInitialise_tarCacheValid (s : State) : (stepInitialise s).tarCacheValid = false := rfl
@[simp] theorem stepInitialise_swclkOutput (s : State) : (stepInitialise s).swclkOutput = true := rfl
@[simp] theorem stepInitialise_swclk (s : State) : (stepInitialise s).swclk = false := rfl
@[simp] theorem stepInitialise_swdioConfigured (s : State) : (stepInitialise s).swdioConfigured = true := rfl
@[simp] theorem stepInitialise_swdioDriven (s : State) : (stepInitialise s).swdioDriven = s.swdioDriven := rfl
@[simp] theorem stepInitialise_swdioLevel (s : State) : (stepInitialise s).swdioLevel = s.swdioLevel := rfl
@[simp] theorem stepInitialise_linkFault (s : State) : (stepInitialise s).linkFault = s.linkFault := rfl
@[simp] theorem stepInitialise_connectCause (s : State) : (stepInitialise s).connectCause = s.connectCause := rfl
@[simp] theorem stepInitialise_framer (s : State) : (stepInitialise s).framer = s.framer := rfl
@[simp] theorem stepInitialise_swdData (s : State) : (stepInitialise s).swdData = s.swdData := rfl
@[simp] theorem stepInitialise_selectShadow (s : State) : (stepInitialise s).selectShadow = s.selectShadow := rfl
@[simp] theorem stepInitialise_tarShadow (s : State) : (stepInitialise s).tarShadow = s.tarShadow := rfl
@[simp] theorem stepInitialise_events (s : State) : (stepInitialise s).events = s.events := rfl
@[simp] theorem stepInitialise_swdioIn (s : State) : (stepInitialise s).swdioIn = s.swdioIn := rfl
@[simp] theorem stepInitialise_upcallIn (s : State) : (stepInitialise s).upcallIn = s.upcallIn := rfl
@[simp] theorem stepInitialise_draws (s : State) : (stepInitialise s).draws = s.draws := rfl
@[simp] theorem stepInitialise_wire (s : State) : (stepInitialise s).wire = s.wire := rfl
@[simp] theorem stepInitialise_upcalls (s : State) : (stepInitialise s).upcalls = s.upcalls := rfl
@[simp] theorem stepInitialise_returns (s : State) : (stepInitialise s).returns = s.returns := rfl

@[simp] theorem logUpcall_idcode (u : Upcall) (s : State) : (logUpcall u s).idcode = s.idcode := rfl
@[simp] theorem logUpcall_ir (u : Upcall) (s : State) : (logUpcall u s).ir = s.ir := rfl
@[simp] theorem logUpcall_shifter (u : Upcall) (s : State) : (logUpcall u s).shifter = s.shifter := rfl
@[simp] theorem logUpcall_tapState (u : Upcall) (s : State) : (logUpcall u s).tapState = s.tapState := rfl
@[simp] theorem logUpcall_dmiRdata (u : Upcall) (s : State) : (logUpcall u s).dmiRdata = s.dmiRdata := rfl
@[simp] theorem logUpcall_tck (u : Upcall) (s : State) : (logUpcall u s).tck = s.tck := rfl
@[simp] theorem logUpcall_tms (u : Upcall) (s : State) : (logUpcall u s).tms = s.tms := rfl
@[simp] theorem logUpcall_tdi (u : Upcall) (s : State) : (logUpcall u s).tdi = s.tdi := rfl
@[simp] theorem logUpcall_tdo (u : Upcall) (s : State) : (logUpcall u s).tdo = s.tdo := rfl
@[simp] theorem logUpcall_dmiReadBinding (u : Upcall) (s : State) : (logUpcall u s).dmiReadBinding = s.dmiReadBinding := rfl
@[simp] theorem logUpcall_dmiWriteBinding (u : Upcall) (s : State) : (logUpcall u s).dmiWriteBinding = s.dmiWriteBinding := rfl
@[simp] theorem logUpcall_targetsel (u : Upcall) (s : State) : (logUpcall u s).targetsel = s.targetsel := rfl
@[simp] theorem logUpcall_apsel (u : Upcall) (s : State) : (logUpcall u s).apsel = s.apsel := rfl
@[simp] theorem logUpcall_tarCache (u : Upcall) (s : State) : (logUpcall u s).tarCache = s.tarCache := rfl
@[simp] theorem logUpcall_tarCacheValid (u : Upcall) (s : State) : (logUpcall u s).tarCacheValid = s.tarCacheValid := rfl
@[simp] theorem logUpcall_swclkOutput (u : Upcall) (s : State) : (logUpcall u s).swclkOutput = s.swclkOutput := rfl
@[simp] theorem logUpcall_swclk (u : Upcall) (s : State) : (logUpcall u s).swclk = s.swclk := rfl
@[simp] theorem logUpcall_swdioConfigured (u : Upcall) (s : State) : (logUpcall u s).swdioConfigured = s.swdioConfigured := rfl
@[simp] theorem logUpcall_swdioDriven (u : Upcall) (s : State) : (logUpcall u s).swdioDriven = s.swdioDriven := rfl
@[simp] theorem logUpcall_swdioLevel (u : Upcall) (s : State) : (logUpcall u s).swdioLevel = s.swdioLevel := rfl
@[simp] theorem logUpcall_linkFault (u : Upcall) (s : State) : (logUpcall u s).linkFault = s.linkFault := rfl
@[simp] theorem logUpcall_connectCause (u : Upcall) (s : State) : (logUpcall u s).connectCause = s.connectCause := rfl
@[simp] theorem logUpcall_framer (u : Upcall) (s : State) : (logUpcall u s).framer = s.framer := rfl
@[simp] theorem logUpcall_swdData (u : Upcall) (s : State) : (logUpcall u s).swdData = s.swdData := rfl
@[simp] theorem logUpcall_selectShadow (u : Upcall) (s : State) : (logUpcall u s).selectShadow = s.selectShadow := rfl
@[simp] theorem logUpcall_tarShadow (u : Upcall) (s : State) : (logUpcall u s).tarShadow = s.tarShadow := rfl
@[simp] theorem logUpcall_events (u : Upcall) (s : State) : (logUpcall u s).events = s.events := rfl
@[simp] theorem logUpcall_swdioIn (u : Upcall) (s : State) : (logUpcall u s).swdioIn = s.swdioIn := rfl
@[simp] theorem logUpcall_upcallIn (u : Upcall) (s : State) : (logUpcall u s).upcallIn = s.upcallIn := rfl
@[simp] theorem logUpcall_draws (u : Upcall) (s : State) : (logUpcall u s).draws = s.draws := rfl
@[simp] theorem logUpcall_wire (u : Upcall) (s : State) : (logUpcall u s).wire = s.wire := rfl
@[simp] theorem logUpcall_upcalls (u : Upcall) (s : State) : (logUpcall u s).upcalls = s.upcalls ++ [u] := rfl
@[simp] theorem logUpcall_returns (u : Upcall) (s : State) : (logUpcall u s).returns = s.returns := rfl

@[simp] theorem resetIr_idcode (s : State) : (resetIr s).idcode = s.idcode := rfl
@[simp] theorem resetIr_ir (s : State) : (resetIr s).ir = irIdcode := rfl
@[simp] theorem resetIr_shifter (s : State) : (resetIr s).shifter = s.shifter := rfl
@[simp] theorem resetIr_tapState (s : State) : (resetIr s).tapState = s.tapState := rfl
@[simp] theorem resetIr_dmiRdata (s : State) : (resetIr s).dmiRdata = s.dmiRdata := rfl
@[simp] theorem resetIr_tck (s : State) : (resetIr s).tck = s.tck := rfl
@[simp] theorem resetIr_tms (s : State) : (resetIr s).tms = s.tms := rfl
@[simp] theorem resetIr_tdi (s : State) : (resetIr s).tdi = s.tdi := rfl
@[simp] theorem resetIr_tdo (s : State) : (resetIr s).tdo = s.tdo := rfl
@[simp] theorem resetIr_dmiReadBinding (s : State) : (resetIr s).dmiReadBinding = s.dmiReadBinding := rfl
@[simp] theorem resetIr_dmiWriteBinding (s : State) : (resetIr s).dmiWriteBinding = s.dmiWriteBinding := rfl
@[simp] theorem resetIr_targetsel (s : State) : (resetIr s).targetsel = s.targetsel := rfl
@[simp] theorem resetIr_apsel (s : State) : (resetIr s).apsel = s.apsel := rfl
@[simp] theorem resetIr_tarCache (s : State) : (resetIr s).tarCache = s.tarCache := rfl
@[simp] theorem resetIr_tarCacheValid (s : State) : (resetIr s).tarCacheValid = s.tarCacheValid := rfl
@[simp] theorem resetIr_swclkOutput (s : State) : (resetIr s).swclkOutput = s.swclkOutput := rfl
@[simp] theorem resetIr_swclk (s : State) : (resetIr s).swclk = s.swclk := rfl
@[simp] theorem resetIr_swdioConfigured (s : State) : (resetIr s).swdioConfigured = s.swdioConfigured := rfl
@[simp] theorem resetIr_swdioDriven (s : State) : (resetIr s).swdioDriven = s.swdioDriven := rfl
@[simp] theorem resetIr_swdioLevel (s : State) : (resetIr s).swdioLevel = s.swdioLevel := rfl
@[simp] theorem resetIr_linkFault (s : State) : (resetIr s).linkFault = s.linkFault := rfl
@[simp] theorem resetIr_connectCause (s : State) : (resetIr s).connectCause = s.connectCause := rfl
@[simp] theorem resetIr_framer (s : State) : (resetIr s).framer = s.framer := rfl
@[simp] theorem resetIr_swdData (s : State) : (resetIr s).swdData = s.swdData := rfl
@[simp] theorem resetIr_selectShadow (s : State) : (resetIr s).selectShadow = s.selectShadow := rfl
@[simp] theorem resetIr_tarShadow (s : State) : (resetIr s).tarShadow = s.tarShadow := rfl
@[simp] theorem resetIr_events (s : State) : (resetIr s).events = s.events := rfl
@[simp] theorem resetIr_swdioIn (s : State) : (resetIr s).swdioIn = s.swdioIn := rfl
@[simp] theorem resetIr_upcallIn (s : State) : (resetIr s).upcallIn = s.upcallIn := rfl
@[simp] theorem resetIr_draws (s : State) : (resetIr s).draws = s.draws := rfl
@[simp] theorem resetIr_wire (s : State) : (resetIr s).wire = s.wire := rfl
@[simp] theorem resetIr_upcalls (s : State) : (resetIr s).upcalls = s.upcalls := rfl
@[simp] theorem resetIr_returns (s : State) : (resetIr s).returns = s.returns := rfl

@[simp] theorem captureIr_idcode (s : State) : (captureIr s).idcode = s.idcode := rfl
@[simp] theorem captureIr_ir (s : State) : (captureIr s).ir = s.ir := rfl
@[simp] theorem captureIr_shifter (s : State) : (captureIr s).shifter = captureIrCode s.ir := rfl
@[simp] theorem captureIr_tapState (s : State) : (captureIr s).tapState = s.tapState := rfl
@[simp] theorem captureIr_dmiRdata (s : State) : (captureIr s).dmiRdata = s.dmiRdata := rfl
@[simp] theorem captureIr_tck (s : State) : (captureIr s).tck = s.tck := rfl
@[simp] theorem captureIr_tms (s : State) : (captureIr s).tms = s.tms := rfl
@[simp] theorem captureIr_tdi (s : State) : (captureIr s).tdi = s.tdi := rfl
@[simp] theorem captureIr_tdo (s : State) : (captureIr s).tdo = s.tdo := rfl
@[simp] theorem captureIr_dmiReadBinding (s : State) : (captureIr s).dmiReadBinding = s.dmiReadBinding := rfl
@[simp] theorem captureIr_dmiWriteBinding (s : State) : (captureIr s).dmiWriteBinding = s.dmiWriteBinding := rfl
@[simp] theorem captureIr_targetsel (s : State) : (captureIr s).targetsel = s.targetsel := rfl
@[simp] theorem captureIr_apsel (s : State) : (captureIr s).apsel = s.apsel := rfl
@[simp] theorem captureIr_tarCache (s : State) : (captureIr s).tarCache = s.tarCache := rfl
@[simp] theorem captureIr_tarCacheValid (s : State) : (captureIr s).tarCacheValid = s.tarCacheValid := rfl
@[simp] theorem captureIr_swclkOutput (s : State) : (captureIr s).swclkOutput = s.swclkOutput := rfl
@[simp] theorem captureIr_swclk (s : State) : (captureIr s).swclk = s.swclk := rfl
@[simp] theorem captureIr_swdioConfigured (s : State) : (captureIr s).swdioConfigured = s.swdioConfigured := rfl
@[simp] theorem captureIr_swdioDriven (s : State) : (captureIr s).swdioDriven = s.swdioDriven := rfl
@[simp] theorem captureIr_swdioLevel (s : State) : (captureIr s).swdioLevel = s.swdioLevel := rfl
@[simp] theorem captureIr_linkFault (s : State) : (captureIr s).linkFault = s.linkFault := rfl
@[simp] theorem captureIr_connectCause (s : State) : (captureIr s).connectCause = s.connectCause := rfl
@[simp] theorem captureIr_framer (s : State) : (captureIr s).framer = s.framer := rfl
@[simp] theorem captureIr_swdData (s : State) : (captureIr s).swdData = s.swdData := rfl
@[simp] theorem captureIr_selectShadow (s : State) : (captureIr s).selectShadow = s.selectShadow := rfl
@[simp] theorem captureIr_tarShadow (s : State) : (captureIr s).tarShadow = s.tarShadow := rfl
@[simp] theorem captureIr_events (s : State) : (captureIr s).events = s.events := rfl
@[simp] theorem captureIr_swdioIn (s : State) : (captureIr s).swdioIn = s.swdioIn := rfl
@[simp] theorem captureIr_upcallIn (s : State) : (captureIr s).upcallIn = s.upcallIn := rfl
@[simp] theorem captureIr_draws (s : State) : (captureIr s).draws = s.draws := rfl
@[simp] theorem captureIr_wire (s : State) : (captureIr s).wire = s.wire := rfl
@[simp] theorem captureIr_upcalls (s : State) : (captureIr s).upcalls = s.upcalls := rfl
@[simp] theorem captureIr_returns (s : State) : (captureIr s).returns = s.returns := rfl

@[simp] theorem shiftIr_idcode (s : State) : (shiftIr s).idcode = s.idcode := rfl
@[simp] theorem shiftIr_ir (s : State) : (shiftIr s).ir = s.ir := rfl
@[simp] theorem shiftIr_shifter (s : State) : (shiftIr s).shifter = (s.shifter >>> 1) ||| (bitAtZero s.tdi <<< (wIr - 1)) := rfl
@[simp] theorem shiftIr_tapState (s : State) : (shiftIr s).tapState = s.tapState := rfl
@[simp] theorem shiftIr_dmiRdata (s : State) : (shiftIr s).dmiRdata = s.dmiRdata := rfl
@[simp] theorem shiftIr_tck (s : State) : (shiftIr s).tck = s.tck := rfl
@[simp] theorem shiftIr_tms (s : State) : (shiftIr s).tms = s.tms := rfl
@[simp] theorem shiftIr_tdi (s : State) : (shiftIr s).tdi = s.tdi := rfl
@[simp] theorem shiftIr_tdo (s : State) : (shiftIr s).tdo = s.tdo := rfl
@[simp] theorem shiftIr_dmiReadBinding (s : State) : (shiftIr s).dmiReadBinding = s.dmiReadBinding := rfl
@[simp] theorem shiftIr_dmiWriteBinding (s : State) : (shiftIr s).dmiWriteBinding = s.dmiWriteBinding := rfl
@[simp] theorem shiftIr_targetsel (s : State) : (shiftIr s).targetsel = s.targetsel := rfl
@[simp] theorem shiftIr_apsel (s : State) : (shiftIr s).apsel = s.apsel := rfl
@[simp] theorem shiftIr_tarCache (s : State) : (shiftIr s).tarCache = s.tarCache := rfl
@[simp] theorem shiftIr_tarCacheValid (s : State) : (shiftIr s).tarCacheValid = s.tarCacheValid := rfl
@[simp] theorem shiftIr_swclkOutput (s : State) : (shiftIr s).swclkOutput = s.swclkOutput := rfl
@[simp] theorem shiftIr_swclk (s : State) : (shiftIr s).swclk = s.swclk := rfl
@[simp] theorem shiftIr_swdioConfigured (s : State) : (shiftIr s).swdioConfigured = s.swdioConfigured := rfl
@[simp] theorem shiftIr_swdioDriven (s : State) : (shiftIr s).swdioDriven = s.swdioDriven := rfl
@[simp] theorem shiftIr_swdioLevel (s : State) : (shiftIr s).swdioLevel = s.swdioLevel := rfl
@[simp] theorem shiftIr_linkFault (s : State) : (shiftIr s).linkFault = s.linkFault := rfl
@[simp] theorem shiftIr_connectCause (s : State) : (shiftIr s).connectCause = s.connectCause := rfl
@[simp] theorem shiftIr_framer (s : State) : (shiftIr s).framer = s.framer := rfl
@[simp] theorem shiftIr_swdData (s : State) : (shiftIr s).swdData = s.swdData := rfl
@[simp] theorem shiftIr_selectShadow (s : State) : (shiftIr s).selectShadow = s.selectShadow := rfl
@[simp] theorem shiftIr_tarShadow (s : State) : (shiftIr s).tarShadow = s.tarShadow := rfl
@[simp] theorem shiftIr_events (s : State) : (shiftIr s).events = s.events := rfl
@[simp] theorem shiftIr_swdioIn (s : State) : (shiftIr s).swdioIn = s.swdioIn := rfl
@[simp] theorem shiftIr_upcallIn (s : State) : (shiftIr s).upcallIn = s.upcallIn := rfl
@[simp] theorem shiftIr_draws (s : State) : (shiftIr s).draws = s.draws := rfl
@[simp] theorem shiftIr_wire (s : State) : (shiftIr s).wire = s.wire := rfl
@[simp] theorem shiftIr_upcalls (s : State) : (shiftIr s).upcalls = s.upcalls := rfl
@[simp] theorem shiftIr_returns (s : State) : (shiftIr s).returns = s.returns := rfl

@[simp] theorem updateIr_idcode (s : State) : (updateIr s).idcode = s.idcode := rfl
@[simp] theorem updateIr_ir (s : State) : (updateIr s).ir = s.shifter.setWidth 5 := rfl
@[simp] theorem updateIr_shifter (s : State) : (updateIr s).shifter = s.shifter := rfl
@[simp] theorem updateIr_tapState (s : State) : (updateIr s).tapState = s.tapState := rfl
@[simp] theorem updateIr_dmiRdata (s : State) : (updateIr s).dmiRdata = s.dmiRdata := rfl
@[simp] theorem updateIr_tck (s : State) : (updateIr s).tck = s.tck := rfl
@[simp] theorem updateIr_tms (s : State) : (updateIr s).tms = s.tms := rfl
@[simp] theorem updateIr_tdi (s : State) : (updateIr s).tdi = s.tdi := rfl
@[simp] theorem updateIr_tdo (s : State) : (updateIr s).tdo = s.tdo := rfl
@[simp] theorem updateIr_dmiReadBinding (s : State) : (updateIr s).dmiReadBinding = s.dmiReadBinding := rfl
@[simp] theorem updateIr_dmiWriteBinding (s : State) : (updateIr s).dmiWriteBinding = s.dmiWriteBinding := rfl
@[simp] theorem updateIr_targetsel (s : State) : (updateIr s).targetsel = s.targetsel := rfl
@[simp] theorem updateIr_apsel (s : State) : (updateIr s).apsel = s.apsel := rfl
@[simp] theorem updateIr_tarCache (s : State) : (updateIr s).tarCache = s.tarCache := rfl
@[simp] theorem updateIr_tarCacheValid (s : State) : (updateIr s).tarCacheValid = s.tarCacheValid := rfl
@[simp] theorem updateIr_swclkOutput (s : State) : (updateIr s).swclkOutput = s.swclkOutput := rfl
@[simp] theorem updateIr_swclk (s : State) : (updateIr s).swclk = s.swclk := rfl
@[simp] theorem updateIr_swdioConfigured (s : State) : (updateIr s).swdioConfigured = s.swdioConfigured := rfl
@[simp] theorem updateIr_swdioDriven (s : State) : (updateIr s).swdioDriven = s.swdioDriven := rfl
@[simp] theorem updateIr_swdioLevel (s : State) : (updateIr s).swdioLevel = s.swdioLevel := rfl
@[simp] theorem updateIr_linkFault (s : State) : (updateIr s).linkFault = s.linkFault := rfl
@[simp] theorem updateIr_connectCause (s : State) : (updateIr s).connectCause = s.connectCause := rfl
@[simp] theorem updateIr_framer (s : State) : (updateIr s).framer = s.framer := rfl
@[simp] theorem updateIr_swdData (s : State) : (updateIr s).swdData = s.swdData := rfl
@[simp] theorem updateIr_selectShadow (s : State) : (updateIr s).selectShadow = s.selectShadow := rfl
@[simp] theorem updateIr_tarShadow (s : State) : (updateIr s).tarShadow = s.tarShadow := rfl
@[simp] theorem updateIr_events (s : State) : (updateIr s).events = s.events := rfl
@[simp] theorem updateIr_swdioIn (s : State) : (updateIr s).swdioIn = s.swdioIn := rfl
@[simp] theorem updateIr_upcallIn (s : State) : (updateIr s).upcallIn = s.upcallIn := rfl
@[simp] theorem updateIr_draws (s : State) : (updateIr s).draws = s.draws := rfl
@[simp] theorem updateIr_wire (s : State) : (updateIr s).wire = s.wire := rfl
@[simp] theorem updateIr_upcalls (s : State) : (updateIr s).upcalls = s.upcalls := rfl
@[simp] theorem updateIr_returns (s : State) : (updateIr s).returns = s.returns := rfl

@[simp] theorem loadShifter_idcode (v : ShiftReg) (s : State) : (loadShifter v s).idcode = s.idcode := rfl
@[simp] theorem loadShifter_ir (v : ShiftReg) (s : State) : (loadShifter v s).ir = s.ir := rfl
@[simp] theorem loadShifter_shifter (v : ShiftReg) (s : State) : (loadShifter v s).shifter = v := rfl
@[simp] theorem loadShifter_tapState (v : ShiftReg) (s : State) : (loadShifter v s).tapState = s.tapState := rfl
@[simp] theorem loadShifter_dmiRdata (v : ShiftReg) (s : State) : (loadShifter v s).dmiRdata = s.dmiRdata := rfl
@[simp] theorem loadShifter_tck (v : ShiftReg) (s : State) : (loadShifter v s).tck = s.tck := rfl
@[simp] theorem loadShifter_tms (v : ShiftReg) (s : State) : (loadShifter v s).tms = s.tms := rfl
@[simp] theorem loadShifter_tdi (v : ShiftReg) (s : State) : (loadShifter v s).tdi = s.tdi := rfl
@[simp] theorem loadShifter_tdo (v : ShiftReg) (s : State) : (loadShifter v s).tdo = s.tdo := rfl
@[simp] theorem loadShifter_dmiReadBinding (v : ShiftReg) (s : State) : (loadShifter v s).dmiReadBinding = s.dmiReadBinding := rfl
@[simp] theorem loadShifter_dmiWriteBinding (v : ShiftReg) (s : State) : (loadShifter v s).dmiWriteBinding = s.dmiWriteBinding := rfl
@[simp] theorem loadShifter_targetsel (v : ShiftReg) (s : State) : (loadShifter v s).targetsel = s.targetsel := rfl
@[simp] theorem loadShifter_apsel (v : ShiftReg) (s : State) : (loadShifter v s).apsel = s.apsel := rfl
@[simp] theorem loadShifter_tarCache (v : ShiftReg) (s : State) : (loadShifter v s).tarCache = s.tarCache := rfl
@[simp] theorem loadShifter_tarCacheValid (v : ShiftReg) (s : State) : (loadShifter v s).tarCacheValid = s.tarCacheValid := rfl
@[simp] theorem loadShifter_swclkOutput (v : ShiftReg) (s : State) : (loadShifter v s).swclkOutput = s.swclkOutput := rfl
@[simp] theorem loadShifter_swclk (v : ShiftReg) (s : State) : (loadShifter v s).swclk = s.swclk := rfl
@[simp] theorem loadShifter_swdioConfigured (v : ShiftReg) (s : State) : (loadShifter v s).swdioConfigured = s.swdioConfigured := rfl
@[simp] theorem loadShifter_swdioDriven (v : ShiftReg) (s : State) : (loadShifter v s).swdioDriven = s.swdioDriven := rfl
@[simp] theorem loadShifter_swdioLevel (v : ShiftReg) (s : State) : (loadShifter v s).swdioLevel = s.swdioLevel := rfl
@[simp] theorem loadShifter_linkFault (v : ShiftReg) (s : State) : (loadShifter v s).linkFault = s.linkFault := rfl
@[simp] theorem loadShifter_connectCause (v : ShiftReg) (s : State) : (loadShifter v s).connectCause = s.connectCause := rfl
@[simp] theorem loadShifter_framer (v : ShiftReg) (s : State) : (loadShifter v s).framer = s.framer := rfl
@[simp] theorem loadShifter_swdData (v : ShiftReg) (s : State) : (loadShifter v s).swdData = s.swdData := rfl
@[simp] theorem loadShifter_selectShadow (v : ShiftReg) (s : State) : (loadShifter v s).selectShadow = s.selectShadow := rfl
@[simp] theorem loadShifter_tarShadow (v : ShiftReg) (s : State) : (loadShifter v s).tarShadow = s.tarShadow := rfl
@[simp] theorem loadShifter_events (v : ShiftReg) (s : State) : (loadShifter v s).events = s.events := rfl
@[simp] theorem loadShifter_swdioIn (v : ShiftReg) (s : State) : (loadShifter v s).swdioIn = s.swdioIn := rfl
@[simp] theorem loadShifter_upcallIn (v : ShiftReg) (s : State) : (loadShifter v s).upcallIn = s.upcallIn := rfl
@[simp] theorem loadShifter_draws (v : ShiftReg) (s : State) : (loadShifter v s).draws = s.draws := rfl
@[simp] theorem loadShifter_wire (v : ShiftReg) (s : State) : (loadShifter v s).wire = s.wire := rfl
@[simp] theorem loadShifter_upcalls (v : ShiftReg) (s : State) : (loadShifter v s).upcalls = s.upcalls := rfl
@[simp] theorem loadShifter_returns (v : ShiftReg) (s : State) : (loadShifter v s).returns = s.returns := rfl

@[simp] theorem shiftDr_idcode (len : Nat) (s : State) : (shiftDr len s).idcode = s.idcode := rfl
@[simp] theorem shiftDr_ir (len : Nat) (s : State) : (shiftDr len s).ir = s.ir := rfl
@[simp] theorem shiftDr_shifter (len : Nat) (s : State) : (shiftDr len s).shifter = ((s.shifter &&& shiftMask len) >>> 1) ||| (bitAtZero s.tdi <<< (len - 1)) := rfl
@[simp] theorem shiftDr_tapState (len : Nat) (s : State) : (shiftDr len s).tapState = s.tapState := rfl
@[simp] theorem shiftDr_dmiRdata (len : Nat) (s : State) : (shiftDr len s).dmiRdata = s.dmiRdata := rfl
@[simp] theorem shiftDr_tck (len : Nat) (s : State) : (shiftDr len s).tck = s.tck := rfl
@[simp] theorem shiftDr_tms (len : Nat) (s : State) : (shiftDr len s).tms = s.tms := rfl
@[simp] theorem shiftDr_tdi (len : Nat) (s : State) : (shiftDr len s).tdi = s.tdi := rfl
@[simp] theorem shiftDr_tdo (len : Nat) (s : State) : (shiftDr len s).tdo = s.tdo := rfl
@[simp] theorem shiftDr_dmiReadBinding (len : Nat) (s : State) : (shiftDr len s).dmiReadBinding = s.dmiReadBinding := rfl
@[simp] theorem shiftDr_dmiWriteBinding (len : Nat) (s : State) : (shiftDr len s).dmiWriteBinding = s.dmiWriteBinding := rfl
@[simp] theorem shiftDr_targetsel (len : Nat) (s : State) : (shiftDr len s).targetsel = s.targetsel := rfl
@[simp] theorem shiftDr_apsel (len : Nat) (s : State) : (shiftDr len s).apsel = s.apsel := rfl
@[simp] theorem shiftDr_tarCache (len : Nat) (s : State) : (shiftDr len s).tarCache = s.tarCache := rfl
@[simp] theorem shiftDr_tarCacheValid (len : Nat) (s : State) : (shiftDr len s).tarCacheValid = s.tarCacheValid := rfl
@[simp] theorem shiftDr_swclkOutput (len : Nat) (s : State) : (shiftDr len s).swclkOutput = s.swclkOutput := rfl
@[simp] theorem shiftDr_swclk (len : Nat) (s : State) : (shiftDr len s).swclk = s.swclk := rfl
@[simp] theorem shiftDr_swdioConfigured (len : Nat) (s : State) : (shiftDr len s).swdioConfigured = s.swdioConfigured := rfl
@[simp] theorem shiftDr_swdioDriven (len : Nat) (s : State) : (shiftDr len s).swdioDriven = s.swdioDriven := rfl
@[simp] theorem shiftDr_swdioLevel (len : Nat) (s : State) : (shiftDr len s).swdioLevel = s.swdioLevel := rfl
@[simp] theorem shiftDr_linkFault (len : Nat) (s : State) : (shiftDr len s).linkFault = s.linkFault := rfl
@[simp] theorem shiftDr_connectCause (len : Nat) (s : State) : (shiftDr len s).connectCause = s.connectCause := rfl
@[simp] theorem shiftDr_framer (len : Nat) (s : State) : (shiftDr len s).framer = s.framer := rfl
@[simp] theorem shiftDr_swdData (len : Nat) (s : State) : (shiftDr len s).swdData = s.swdData := rfl
@[simp] theorem shiftDr_selectShadow (len : Nat) (s : State) : (shiftDr len s).selectShadow = s.selectShadow := rfl
@[simp] theorem shiftDr_tarShadow (len : Nat) (s : State) : (shiftDr len s).tarShadow = s.tarShadow := rfl
@[simp] theorem shiftDr_events (len : Nat) (s : State) : (shiftDr len s).events = s.events := rfl
@[simp] theorem shiftDr_swdioIn (len : Nat) (s : State) : (shiftDr len s).swdioIn = s.swdioIn := rfl
@[simp] theorem shiftDr_upcallIn (len : Nat) (s : State) : (shiftDr len s).upcallIn = s.upcallIn := rfl
@[simp] theorem shiftDr_draws (len : Nat) (s : State) : (shiftDr len s).draws = s.draws := rfl
@[simp] theorem shiftDr_wire (len : Nat) (s : State) : (shiftDr len s).wire = s.wire := rfl
@[simp] theorem shiftDr_upcalls (len : Nat) (s : State) : (shiftDr len s).upcalls = s.upcalls := rfl
@[simp] theorem shiftDr_returns (len : Nat) (s : State) : (shiftDr len s).returns = s.returns := rfl

@[simp] theorem fallingEdge_idcode (s : State) : (fallingEdge s).idcode = s.idcode := rfl
@[simp] theorem fallingEdge_ir (s : State) : (fallingEdge s).ir = s.ir := rfl
@[simp] theorem fallingEdge_shifter (s : State) : (fallingEdge s).shifter = s.shifter := rfl
@[simp] theorem fallingEdge_tapState (s : State) : (fallingEdge s).tapState = s.tapState := rfl
@[simp] theorem fallingEdge_dmiRdata (s : State) : (fallingEdge s).dmiRdata = s.dmiRdata := rfl
@[simp] theorem fallingEdge_tck (s : State) : (fallingEdge s).tck = false := rfl
@[simp] theorem fallingEdge_tms (s : State) : (fallingEdge s).tms = s.tms := rfl
@[simp] theorem fallingEdge_tdi (s : State) : (fallingEdge s).tdi = s.tdi := rfl
@[simp] theorem fallingEdge_tdo (s : State) : (fallingEdge s).tdo = tdoPolicy s.tapState s.shifter := rfl
@[simp] theorem fallingEdge_dmiReadBinding (s : State) : (fallingEdge s).dmiReadBinding = s.dmiReadBinding := rfl
@[simp] theorem fallingEdge_dmiWriteBinding (s : State) : (fallingEdge s).dmiWriteBinding = s.dmiWriteBinding := rfl
@[simp] theorem fallingEdge_targetsel (s : State) : (fallingEdge s).targetsel = s.targetsel := rfl
@[simp] theorem fallingEdge_apsel (s : State) : (fallingEdge s).apsel = s.apsel := rfl
@[simp] theorem fallingEdge_tarCache (s : State) : (fallingEdge s).tarCache = s.tarCache := rfl
@[simp] theorem fallingEdge_tarCacheValid (s : State) : (fallingEdge s).tarCacheValid = s.tarCacheValid := rfl
@[simp] theorem fallingEdge_swclkOutput (s : State) : (fallingEdge s).swclkOutput = s.swclkOutput := rfl
@[simp] theorem fallingEdge_swclk (s : State) : (fallingEdge s).swclk = s.swclk := rfl
@[simp] theorem fallingEdge_swdioConfigured (s : State) : (fallingEdge s).swdioConfigured = s.swdioConfigured := rfl
@[simp] theorem fallingEdge_swdioDriven (s : State) : (fallingEdge s).swdioDriven = s.swdioDriven := rfl
@[simp] theorem fallingEdge_swdioLevel (s : State) : (fallingEdge s).swdioLevel = s.swdioLevel := rfl
@[simp] theorem fallingEdge_linkFault (s : State) : (fallingEdge s).linkFault = s.linkFault := rfl
@[simp] theorem fallingEdge_connectCause (s : State) : (fallingEdge s).connectCause = s.connectCause := rfl
@[simp] theorem fallingEdge_framer (s : State) : (fallingEdge s).framer = s.framer := rfl
@[simp] theorem fallingEdge_swdData (s : State) : (fallingEdge s).swdData = s.swdData := rfl
@[simp] theorem fallingEdge_selectShadow (s : State) : (fallingEdge s).selectShadow = s.selectShadow := rfl
@[simp] theorem fallingEdge_tarShadow (s : State) : (fallingEdge s).tarShadow = s.tarShadow := rfl
@[simp] theorem fallingEdge_events (s : State) : (fallingEdge s).events = s.events := rfl
@[simp] theorem fallingEdge_swdioIn (s : State) : (fallingEdge s).swdioIn = s.swdioIn := rfl
@[simp] theorem fallingEdge_upcallIn (s : State) : (fallingEdge s).upcallIn = s.upcallIn := rfl
@[simp] theorem fallingEdge_draws (s : State) : (fallingEdge s).draws = s.draws := rfl
@[simp] theorem fallingEdge_wire (s : State) : (fallingEdge s).wire = s.wire := rfl
@[simp] theorem fallingEdge_upcalls (s : State) : (fallingEdge s).upcalls = s.upcalls := rfl
@[simp] theorem fallingEdge_returns (s : State) : (fallingEdge s).returns = s.returns := rfl

/-! A rising edge moves the TAP and stores TCK; it sets `ir` when it enters S_RESET (R135). -/

@[simp] theorem finishRisingEdge_idcode (s : State) : (finishRisingEdge s).idcode = s.idcode := rfl
@[simp] theorem finishRisingEdge_ir (s : State) : (finishRisingEdge s).ir = if nextState s.tapState s.tms = .sReset then irIdcode else s.ir := rfl
@[simp] theorem finishRisingEdge_shifter (s : State) : (finishRisingEdge s).shifter = s.shifter := rfl
@[simp] theorem finishRisingEdge_tapState (s : State) : (finishRisingEdge s).tapState = nextState s.tapState s.tms := rfl
@[simp] theorem finishRisingEdge_dmiRdata (s : State) : (finishRisingEdge s).dmiRdata = s.dmiRdata := rfl
@[simp] theorem finishRisingEdge_tck (s : State) : (finishRisingEdge s).tck = true := rfl
@[simp] theorem finishRisingEdge_tms (s : State) : (finishRisingEdge s).tms = s.tms := rfl
@[simp] theorem finishRisingEdge_tdi (s : State) : (finishRisingEdge s).tdi = s.tdi := rfl
@[simp] theorem finishRisingEdge_tdo (s : State) : (finishRisingEdge s).tdo = s.tdo := rfl
@[simp] theorem finishRisingEdge_dmiReadBinding (s : State) : (finishRisingEdge s).dmiReadBinding = s.dmiReadBinding := rfl
@[simp] theorem finishRisingEdge_dmiWriteBinding (s : State) : (finishRisingEdge s).dmiWriteBinding = s.dmiWriteBinding := rfl
@[simp] theorem finishRisingEdge_targetsel (s : State) : (finishRisingEdge s).targetsel = s.targetsel := rfl
@[simp] theorem finishRisingEdge_apsel (s : State) : (finishRisingEdge s).apsel = s.apsel := rfl
@[simp] theorem finishRisingEdge_tarCache (s : State) : (finishRisingEdge s).tarCache = s.tarCache := rfl
@[simp] theorem finishRisingEdge_tarCacheValid (s : State) : (finishRisingEdge s).tarCacheValid = s.tarCacheValid := rfl
@[simp] theorem finishRisingEdge_swclkOutput (s : State) : (finishRisingEdge s).swclkOutput = s.swclkOutput := rfl
@[simp] theorem finishRisingEdge_swclk (s : State) : (finishRisingEdge s).swclk = s.swclk := rfl
@[simp] theorem finishRisingEdge_swdioConfigured (s : State) : (finishRisingEdge s).swdioConfigured = s.swdioConfigured := rfl
@[simp] theorem finishRisingEdge_swdioDriven (s : State) : (finishRisingEdge s).swdioDriven = s.swdioDriven := rfl
@[simp] theorem finishRisingEdge_swdioLevel (s : State) : (finishRisingEdge s).swdioLevel = s.swdioLevel := rfl
@[simp] theorem finishRisingEdge_linkFault (s : State) : (finishRisingEdge s).linkFault = s.linkFault := rfl
@[simp] theorem finishRisingEdge_connectCause (s : State) : (finishRisingEdge s).connectCause = s.connectCause := rfl
@[simp] theorem finishRisingEdge_framer (s : State) : (finishRisingEdge s).framer = s.framer := rfl
@[simp] theorem finishRisingEdge_swdData (s : State) : (finishRisingEdge s).swdData = s.swdData := rfl
@[simp] theorem finishRisingEdge_selectShadow (s : State) : (finishRisingEdge s).selectShadow = s.selectShadow := rfl
@[simp] theorem finishRisingEdge_tarShadow (s : State) : (finishRisingEdge s).tarShadow = s.tarShadow := rfl
@[simp] theorem finishRisingEdge_events (s : State) : (finishRisingEdge s).events = s.events := rfl
@[simp] theorem finishRisingEdge_swdioIn (s : State) : (finishRisingEdge s).swdioIn = s.swdioIn := rfl
@[simp] theorem finishRisingEdge_upcallIn (s : State) : (finishRisingEdge s).upcallIn = s.upcallIn := rfl
@[simp] theorem finishRisingEdge_draws (s : State) : (finishRisingEdge s).draws = s.draws := rfl
@[simp] theorem finishRisingEdge_wire (s : State) : (finishRisingEdge s).wire = s.wire := rfl
@[simp] theorem finishRisingEdge_upcalls (s : State) : (finishRisingEdge s).upcalls = s.upcalls := rfl
@[simp] theorem finishRisingEdge_returns (s : State) : (finishRisingEdge s).returns = s.returns := rfl

/-! An OK write to SELECT or TAR is remembered; nothing else is touched. -/

@[simp] theorem noteWrite_idcode (p : Bool) (a : RegAddr) (d : Word) (k : Ack) (s : State) :
    (noteWrite p a d k s).idcode = s.idcode := by
  unfold noteWrite; split <;> (try split) <;> (try split) <;> rfl
@[simp] theorem noteWrite_ir (p : Bool) (a : RegAddr) (d : Word) (k : Ack) (s : State) :
    (noteWrite p a d k s).ir = s.ir := by
  unfold noteWrite; split <;> (try split) <;> (try split) <;> rfl
@[simp] theorem noteWrite_shifter (p : Bool) (a : RegAddr) (d : Word) (k : Ack) (s : State) :
    (noteWrite p a d k s).shifter = s.shifter := by
  unfold noteWrite; split <;> (try split) <;> (try split) <;> rfl
@[simp] theorem noteWrite_tapState (p : Bool) (a : RegAddr) (d : Word) (k : Ack) (s : State) :
    (noteWrite p a d k s).tapState = s.tapState := by
  unfold noteWrite; split <;> (try split) <;> (try split) <;> rfl
@[simp] theorem noteWrite_dmiRdata (p : Bool) (a : RegAddr) (d : Word) (k : Ack) (s : State) :
    (noteWrite p a d k s).dmiRdata = s.dmiRdata := by
  unfold noteWrite; split <;> (try split) <;> (try split) <;> rfl
@[simp] theorem noteWrite_tck (p : Bool) (a : RegAddr) (d : Word) (k : Ack) (s : State) :
    (noteWrite p a d k s).tck = s.tck := by
  unfold noteWrite; split <;> (try split) <;> (try split) <;> rfl
@[simp] theorem noteWrite_tms (p : Bool) (a : RegAddr) (d : Word) (k : Ack) (s : State) :
    (noteWrite p a d k s).tms = s.tms := by
  unfold noteWrite; split <;> (try split) <;> (try split) <;> rfl
@[simp] theorem noteWrite_tdi (p : Bool) (a : RegAddr) (d : Word) (k : Ack) (s : State) :
    (noteWrite p a d k s).tdi = s.tdi := by
  unfold noteWrite; split <;> (try split) <;> (try split) <;> rfl
@[simp] theorem noteWrite_tdo (p : Bool) (a : RegAddr) (d : Word) (k : Ack) (s : State) :
    (noteWrite p a d k s).tdo = s.tdo := by
  unfold noteWrite; split <;> (try split) <;> (try split) <;> rfl
@[simp] theorem noteWrite_dmiReadBinding (p : Bool) (a : RegAddr) (d : Word) (k : Ack) (s : State) :
    (noteWrite p a d k s).dmiReadBinding = s.dmiReadBinding := by
  unfold noteWrite; split <;> (try split) <;> (try split) <;> rfl
@[simp] theorem noteWrite_dmiWriteBinding (p : Bool) (a : RegAddr) (d : Word) (k : Ack) (s : State) :
    (noteWrite p a d k s).dmiWriteBinding = s.dmiWriteBinding := by
  unfold noteWrite; split <;> (try split) <;> (try split) <;> rfl
@[simp] theorem noteWrite_targetsel (p : Bool) (a : RegAddr) (d : Word) (k : Ack) (s : State) :
    (noteWrite p a d k s).targetsel = s.targetsel := by
  unfold noteWrite; split <;> (try split) <;> (try split) <;> rfl
@[simp] theorem noteWrite_apsel (p : Bool) (a : RegAddr) (d : Word) (k : Ack) (s : State) :
    (noteWrite p a d k s).apsel = s.apsel := by
  unfold noteWrite; split <;> (try split) <;> (try split) <;> rfl
@[simp] theorem noteWrite_tarCache (p : Bool) (a : RegAddr) (d : Word) (k : Ack) (s : State) :
    (noteWrite p a d k s).tarCache = s.tarCache := by
  unfold noteWrite; split <;> (try split) <;> (try split) <;> rfl
@[simp] theorem noteWrite_tarCacheValid (p : Bool) (a : RegAddr) (d : Word) (k : Ack) (s : State) :
    (noteWrite p a d k s).tarCacheValid = s.tarCacheValid := by
  unfold noteWrite; split <;> (try split) <;> (try split) <;> rfl
@[simp] theorem noteWrite_swclkOutput (p : Bool) (a : RegAddr) (d : Word) (k : Ack) (s : State) :
    (noteWrite p a d k s).swclkOutput = s.swclkOutput := by
  unfold noteWrite; split <;> (try split) <;> (try split) <;> rfl
@[simp] theorem noteWrite_swclk (p : Bool) (a : RegAddr) (d : Word) (k : Ack) (s : State) :
    (noteWrite p a d k s).swclk = s.swclk := by
  unfold noteWrite; split <;> (try split) <;> (try split) <;> rfl
@[simp] theorem noteWrite_swdioConfigured (p : Bool) (a : RegAddr) (d : Word) (k : Ack) (s : State) :
    (noteWrite p a d k s).swdioConfigured = s.swdioConfigured := by
  unfold noteWrite; split <;> (try split) <;> (try split) <;> rfl
@[simp] theorem noteWrite_swdioDriven (p : Bool) (a : RegAddr) (d : Word) (k : Ack) (s : State) :
    (noteWrite p a d k s).swdioDriven = s.swdioDriven := by
  unfold noteWrite; split <;> (try split) <;> (try split) <;> rfl
@[simp] theorem noteWrite_swdioLevel (p : Bool) (a : RegAddr) (d : Word) (k : Ack) (s : State) :
    (noteWrite p a d k s).swdioLevel = s.swdioLevel := by
  unfold noteWrite; split <;> (try split) <;> (try split) <;> rfl
@[simp] theorem noteWrite_linkFault (p : Bool) (a : RegAddr) (d : Word) (k : Ack) (s : State) :
    (noteWrite p a d k s).linkFault = s.linkFault := by
  unfold noteWrite; split <;> (try split) <;> (try split) <;> rfl
@[simp] theorem noteWrite_connectCause (p : Bool) (a : RegAddr) (d : Word) (k : Ack) (s : State) :
    (noteWrite p a d k s).connectCause = s.connectCause := by
  unfold noteWrite; split <;> (try split) <;> (try split) <;> rfl
@[simp] theorem noteWrite_framer (p : Bool) (a : RegAddr) (d : Word) (k : Ack) (s : State) :
    (noteWrite p a d k s).framer = s.framer := by
  unfold noteWrite; split <;> (try split) <;> (try split) <;> rfl
@[simp] theorem noteWrite_swdData (p : Bool) (a : RegAddr) (d : Word) (k : Ack) (s : State) :
    (noteWrite p a d k s).swdData = s.swdData := by
  unfold noteWrite; split <;> (try split) <;> (try split) <;> rfl
@[simp] theorem noteWrite_events (p : Bool) (a : RegAddr) (d : Word) (k : Ack) (s : State) :
    (noteWrite p a d k s).events = s.events := by
  unfold noteWrite; split <;> (try split) <;> (try split) <;> rfl
@[simp] theorem noteWrite_swdioIn (p : Bool) (a : RegAddr) (d : Word) (k : Ack) (s : State) :
    (noteWrite p a d k s).swdioIn = s.swdioIn := by
  unfold noteWrite; split <;> (try split) <;> (try split) <;> rfl
@[simp] theorem noteWrite_upcallIn (p : Bool) (a : RegAddr) (d : Word) (k : Ack) (s : State) :
    (noteWrite p a d k s).upcallIn = s.upcallIn := by
  unfold noteWrite; split <;> (try split) <;> (try split) <;> rfl
@[simp] theorem noteWrite_draws (p : Bool) (a : RegAddr) (d : Word) (k : Ack) (s : State) :
    (noteWrite p a d k s).draws = s.draws := by
  unfold noteWrite; split <;> (try split) <;> (try split) <;> rfl
@[simp] theorem noteWrite_wire (p : Bool) (a : RegAddr) (d : Word) (k : Ack) (s : State) :
    (noteWrite p a d k s).wire = s.wire := by
  unfold noteWrite; split <;> (try split) <;> (try split) <;> rfl
@[simp] theorem noteWrite_upcalls (p : Bool) (a : RegAddr) (d : Word) (k : Ack) (s : State) :
    (noteWrite p a d k s).upcalls = s.upcalls := by
  unfold noteWrite; split <;> (try split) <;> (try split) <;> rfl
@[simp] theorem noteWrite_returns (p : Bool) (a : RegAddr) (d : Word) (k : Ack) (s : State) :
    (noteWrite p a d k s).returns = s.returns := by
  unfold noteWrite; split <;> (try split) <;> (try split) <;> rfl

theorem noteWrite_selectShadow (p : Bool) (a : RegAddr) (d : Word) (k : Ack) (s : State) :
    (noteWrite p a d k s).selectShadow =
      if ackIsOk k = true ∧ p = false ∧ a = aSelect then some d else s.selectShadow := by
  unfold noteWrite; split_ifs <;> simp_all

theorem noteWrite_tarShadow (p : Bool) (a : RegAddr) (d : Word) (k : Ack) (s : State) :
    (noteWrite p a d k s).tarShadow =
      if ackIsOk k = true ∧ p = true ∧ a = aTar then some d else s.tarShadow := by
  unfold noteWrite; split_ifs <;> simp_all

end Sys2Proof.Machine
end

