-- ==== Sys2Proof/Laws/Wire.lean ====
section
/-! SUPPORT. What the wire primitives and the three transactions do, said once: the levels they sample, the cycles
they leave on the wire, and every field they leave as it was. -/

namespace Sys2Proof.Machine

@[simp] theorem getBits_fst (n : Nat) (s : State) : (getBits n s).1 = sampledBits n s := by rw [getBits_eq]

@[simp] theorem sampledBits_length (n : Nat) (s : State) : (sampledBits n s).length = n := by
  simp [sampledBits]; omega

/-- The sampled levels depend on nothing but the target's answers to come and the draws made. -/
theorem sampledBits_congr {n : Nat} {s t : State} (h : s.swdioIn = t.swdioIn) (hd : s.draws = t.draws) :
    sampledBits n s = sampledBits n t := by
  simp [sampledBits, h, hd]

/-- While answers are there, the levels are theirs. -/
theorem sampledBits_of_append {n : Nat} {s : State} {bits rest : List Bool} (h : s.swdioIn = bits ++ rest)
    (hn : bits.length = n) : sampledBits n s = bits := by
  subst hn
  simp [sampledBits, h]

/-- Sampling `m` levels and then `n` is sampling `m + n`. -/
theorem sampledBits_add (m n : Nat) (s t : State) (hi : t.swdioIn = s.swdioIn.drop m)
    (hd : t.draws = s.draws + (m - s.swdioIn.length)) :
    sampledBits (m + n) s = sampledBits m s ++ sampledBits n t := by
  unfold sampledBits
  rw [hi, hd]
  rcases Nat.lt_or_ge s.swdioIn.length m with h | h
  · have e1 : s.swdioIn.take m = s.swdioIn := List.take_of_length_le (by omega)
    have e2 : s.swdioIn.take (m + n) = s.swdioIn := List.take_of_length_le (by omega)
    have e3 : s.swdioIn.drop m = [] := List.drop_eq_nil_of_le (by omega)
    have e4 : m + n - s.swdioIn.length = (m - s.swdioIn.length) + n := by omega
    simp only [e1, e2, e3, e4, List.length_nil, Nat.sub_zero, List.take_nil, List.nil_append, List.append_assoc,
      List.append_cancel_left_eq, List.range_add, List.map_append, List.map_map]
    congr 1
    funext i
    simp [Nat.add_assoc]
  · have e1 : m - s.swdioIn.length = 0 := by omega
    have e2 : n - (s.swdioIn.drop m).length = m + n - s.swdioIn.length := by simp; omega
    rw [e1, e2]
    simp [List.take_add]

/-- The state after a read (R230): 36 levels sampled, 46 cycles, and SWDIO released. -/
def afterRead (p : Bool) (a : RegAddr) (s : State) : State :=
  { tookBits 36 s with
    swclk := false
    swdioDriven := false
    swdioLevel := true
    wire := s.wire ++ readTrace p a (sampledBits 36 s) }

/-- The state after a write (R231), but for what is noted of SELECT and TAR: three levels sampled, 46 cycles, and
SWDIO driven at the parity bit's level. -/
def afterWrite (p : Bool) (a : RegAddr) (d : Word) (s : State) : State :=
  { tookBits 3 s with
    swclk := false
    swdioDriven := true
    swdioLevel := parity d
    wire := s.wire ++ writeTrace p a d (sampledBits 3 s) }

/-- The state after TARGETSEL (R232). -/
def afterTargetsel (d : Word) (s : State) : State :=
  { s with
    swclk := false
    swdioDriven := true
    swdioLevel := parity d
    wire := s.wire ++ targetselTrace d }

theorem requestPhase_eq (p r : Bool) (a : RegAddr) (s : State) :
    requestPhase p r a s =
      { s with swclk := false, swdioDriven := false, swdioLevel := true, wire := s.wire ++ headerTrace p r a } := by
  simp [requestPhase, hizClocks_eq, putBits_eq, headerTrace, lsbFirst_header_getLast]

theorem ackPhase_fst (s : State) : (ackPhase s).1 = packLsb 3 (sampledBits 3 s) := by
  simp [ackPhase]

theorem ackPhase_snd (s : State) :
    (ackPhase s).2 =
      { tookBits 3 s with
        swclk := false, swdioDriven := false, wire := s.wire ++ (sampledBits 3 s).map Cycle.sampled } := by
  simp [ackPhase, getBits_eq, tookBits]

/-- The header, its turnaround and the ACK cycles. -/
theorem ackPhase_requestPhase (p r : Bool) (a : RegAddr) (s : State) :
    ackPhase (requestPhase p r a s) =
      (packLsb 3 (sampledBits 3 s),
        { tookBits 3 s with
          swclk := false, swdioDriven := false, swdioLevel := true
          wire := s.wire ++ headerTrace p r a ++ (sampledBits 3 s).map Cycle.sampled }) := by
  rw [requestPhase_eq]
  refine Prod.ext (by rw [ackPhase_fst]; rfl) (by rw [ackPhase_snd]; rfl)

theorem driveData_eq (d : Word) (s : State) :
    driveData d s =
      { s with swclk := false, swdioDriven := true, swdioLevel := parity d, wire := s.wire ++ dataTrace d } := by
  simp [driveData, putBits_eq, dataTrace]

theorem writeDataPhase_eq (d : Word) (s : State) :
    writeDataPhase d s =
      { s with
        swclk := false, swdioDriven := true, swdioLevel := parity d
        wire := s.wire ++ [Cycle.released] ++ dataTrace d } := by
  simp [writeDataPhase, driveData_eq, hizClocks_eq]

theorem sampledBits_one_after (m : Nat) (s t : State) (hi : t.swdioIn = s.swdioIn.drop m)
    (hd : t.draws = s.draws + (m - s.swdioIn.length)) :
    sampledBits (m + 1) s = sampledBits m s ++ sampledBits 1 t := sampledBits_add m 1 s t hi hd

/-- The rest of a read after its ACK. -/
theorem readDataPhase_eq (s : State) :
    readDataPhase s =
      (packLsb 32 ((sampledBits 33 s).take 32),
        { tookBits 33 s with
          swclk := false, swdioDriven := false
          wire := s.wire ++ (sampledBits 33 s).map Cycle.sampled ++ [Cycle.released] }) := by
  have h := sampledBits_add 32 1 s (getBits 32 s).2 (by simp) (by simp)
  simp only [readDataPhase, getBits_fst]
  rw [h, List.take_left' (sampledBits_length 32 s)]
  simp only [hizClocks_eq, tookBits, getBits_eq, List.map_append, List.append_assoc, List.drop_drop, List.length_drop,
    List.replicate_one]
  refine congrArg (Prod.mk _) ?_
  congr 1
  omega

/-- A read returns the ACK and the data of the next 36 levels and leaves `afterRead`. -/
theorem swdRead_eq (p : Bool) (a : RegAddr) (s : State) :
    swdRead p a s = ⟨ackOf (sampledBits 36 s), dataOf (sampledBits 36 s), afterRead p a s⟩ := by
  have h := sampledBits_add 3 33 s (ackPhase (requestPhase p true a s)).2
    (by rw [ackPhase_requestPhase]; rfl) (by rw [ackPhase_requestPhase]; rfl)
  have hl := sampledBits_length 3 s
  rw [ackPhase_requestPhase] at h
  simp only [swdRead, readDataPhase_eq, ackPhase_requestPhase, ReadResult.mk.injEq]
  refine ⟨?_, ?_, ?_⟩
  · rw [ackOf, h, List.take_left' hl]
  · rw [dataOf, h, List.drop_left' hl]
  · simp only [afterRead, readTrace, h, tookBits, List.map_append, List.append_assoc, List.drop_drop,
      List.length_drop]
    congr 1
    omega

/-- A write returns the ACK of the next three levels. -/
theorem swdWrite_eq (p : Bool) (a : RegAddr) (d : Word) (s : State) :
    swdWrite p a d s =
      ⟨packLsb 3 (sampledBits 3 s), noteWrite p a d (packLsb 3 (sampledBits 3 s)) (afterWrite p a d s)⟩ := by
  simp [swdWrite, ackPhase_requestPhase, writeDataPhase_eq, afterWrite, writeTrace, tookBits]

theorem swdTargetsel_eq (d : Word) (s : State) : swdTargetsel d s = afterTargetsel d s := by
  simp [swdTargetsel, driveData_eq, hizClocks_eq, putBits_eq, afterTargetsel, targetselTrace, header_targetsel]

/-! Lengths in cycles (R236). -/

@[simp] theorem headerTrace_length (p r : Bool) (a : RegAddr) : (headerTrace p r a).length = 9 := by
  simp [headerTrace]

@[simp] theorem dataTrace_length (d : Word) : (dataTrace d).length = 33 := by simp [dataTrace]

theorem readTrace_length (p : Bool) (a : RegAddr) (bits : List Bool) :
    (readTrace p a bits).length = 10 + bits.length := by
  simp [readTrace]; omega

theorem writeTrace_length (p : Bool) (a : RegAddr) (d : Word) (bits : List Bool) :
    (writeTrace p a d bits).length = 43 + bits.length := by
  simp [writeTrace]; omega

@[simp] theorem targetselTrace_length (d : Word) : (targetselTrace d).length = 46 := by simp [targetselTrace]

end Sys2Proof.Machine
end

