-- ==== Sys2Proof/Laws/Frames.lean ====
section
/-! SUPPORT. What SWD activity never touches: the VDTM, the configuration, the framer by itself, the calls and the
upcalls. One relation, kept by every transaction and closed under composition; and the cases of the TAR cache. -/

namespace Sys2Proof.Machine

/-- `t` has everything of `s` but pins, wire, the target's answers, draws, TAR cache, shadows and failure marks. -/
structure SameBeyondWire (s t : State) : Prop where
  idcode : t.idcode = s.idcode
  ir : t.ir = s.ir
  shifter : t.shifter = s.shifter
  tapState : t.tapState = s.tapState
  dmiRdata : t.dmiRdata = s.dmiRdata
  tck : t.tck = s.tck
  tms : t.tms = s.tms
  tdi : t.tdi = s.tdi
  tdo : t.tdo = s.tdo
  dmiReadBinding : t.dmiReadBinding = s.dmiReadBinding
  dmiWriteBinding : t.dmiWriteBinding = s.dmiWriteBinding
  targetsel : t.targetsel = s.targetsel
  apsel : t.apsel = s.apsel
  framer : t.framer = s.framer
  swdData : t.swdData = s.swdData
  events : t.events = s.events
  upcallIn : t.upcallIn = s.upcallIn
  upcalls : t.upcalls = s.upcalls

theorem SameBeyondWire.refl (s : State) : SameBeyondWire s s := by constructor <;> rfl

theorem SameBeyondWire.trans {s t u : State} (h : SameBeyondWire s t) (g : SameBeyondWire t u) :
    SameBeyondWire s u where
  idcode := g.idcode.trans h.idcode
  ir := g.ir.trans h.ir
  shifter := g.shifter.trans h.shifter
  tapState := g.tapState.trans h.tapState
  dmiRdata := g.dmiRdata.trans h.dmiRdata
  tck := g.tck.trans h.tck
  tms := g.tms.trans h.tms
  tdi := g.tdi.trans h.tdi
  tdo := g.tdo.trans h.tdo
  dmiReadBinding := g.dmiReadBinding.trans h.dmiReadBinding
  dmiWriteBinding := g.dmiWriteBinding.trans h.dmiWriteBinding
  targetsel := g.targetsel.trans h.targetsel
  apsel := g.apsel.trans h.apsel
  framer := g.framer.trans h.framer
  swdData := g.swdData.trans h.swdData
  events := g.events.trans h.events
  upcallIn := g.upcallIn.trans h.upcallIn
  upcalls := g.upcalls.trans h.upcalls

theorem sameBeyondWire_putBits (bits : List Bool) (s : State) : SameBeyondWire s (putBits bits s) := by
  rw [putBits_eq]; constructor <;> rfl

theorem sameBeyondWire_afterRead (p : Bool) (a : RegAddr) (s : State) : SameBeyondWire s (afterRead p a s) := by
  constructor <;> rfl

theorem sameBeyondWire_afterWrite (p : Bool) (a : RegAddr) (d : Word) (s : State) :
    SameBeyondWire s (afterWrite p a d s) := by
  constructor <;> rfl

theorem sameBeyondWire_noteWrite (p : Bool) (a : RegAddr) (d : Word) (k : Ack) (s : State) :
    SameBeyondWire s (noteWrite p a d k s) := by
  constructor <;> simp

theorem sameBeyondWire_swdRead (p : Bool) (a : RegAddr) (s : State) : SameBeyondWire s (swdRead p a s).state := by
  rw [swdRead_eq]; exact sameBeyondWire_afterRead p a s

theorem sameBeyondWire_swdWrite (p : Bool) (a : RegAddr) (d : Word) (s : State) :
    SameBeyondWire s (swdWrite p a d s).state := by
  rw [swdWrite_eq]; exact (sameBeyondWire_afterWrite p a d s).trans (sameBeyondWire_noteWrite _ _ _ _ _)

theorem sameBeyondWire_swdTargetsel (d : Word) (s : State) : SameBeyondWire s (swdTargetsel d s) := by
  rw [swdTargetsel_eq]; constructor <;> rfl

/-! Failure marks and the TAR cache are no business of the packet layer (R233). -/

@[simp] theorem swdRead_tarCache (p : Bool) (a : RegAddr) (s : State) :
    (swdRead p a s).state.tarCache = s.tarCache := by rw [swdRead_eq]; rfl

@[simp] theorem swdRead_tarCacheValid (p : Bool) (a : RegAddr) (s : State) :
    (swdRead p a s).state.tarCacheValid = s.tarCacheValid := by rw [swdRead_eq]; rfl

@[simp] theorem swdRead_tarShadow (p : Bool) (a : RegAddr) (s : State) :
    (swdRead p a s).state.tarShadow = s.tarShadow := by rw [swdRead_eq]; rfl

@[simp] theorem swdRead_selectShadow (p : Bool) (a : RegAddr) (s : State) :
    (swdRead p a s).state.selectShadow = s.selectShadow := by rw [swdRead_eq]; rfl

@[simp] theorem swdRead_linkFault (p : Bool) (a : RegAddr) (s : State) :
    (swdRead p a s).state.linkFault = s.linkFault := by rw [swdRead_eq]; rfl

@[simp] theorem swdWrite_tarCache (p : Bool) (a : RegAddr) (d : Word) (s : State) :
    (swdWrite p a d s).state.tarCache = s.tarCache := by rw [swdWrite_eq]; simp [afterWrite, tookBits]

@[simp] theorem swdWrite_tarCacheValid (p : Bool) (a : RegAddr) (d : Word) (s : State) :
    (swdWrite p a d s).state.tarCacheValid = s.tarCacheValid := by rw [swdWrite_eq]; simp [afterWrite, tookBits]

@[simp] theorem swdWrite_linkFault (p : Bool) (a : RegAddr) (d : Word) (s : State) :
    (swdWrite p a d s).state.linkFault = s.linkFault := by rw [swdWrite_eq]; simp [afterWrite, tookBits]

theorem swdWrite_tarShadow (p : Bool) (a : RegAddr) (d : Word) (s : State) :
    (swdWrite p a d s).state.tarShadow =
      if ackIsOk (swdWrite p a d s).ack = true ∧ p = true ∧ a = aTar then some d else s.tarShadow := by
  simp only [swdWrite_eq, noteWrite_tarShadow]; rfl

theorem swdWrite_selectShadow (p : Bool) (a : RegAddr) (d : Word) (s : State) :
    (swdWrite p a d s).state.selectShadow =
      if ackIsOk (swdWrite p a d s).ack = true ∧ p = false ∧ a = aSelect then some d else s.selectShadow := by
  simp only [swdWrite_eq, noteWrite_selectShadow]; rfl

/-- Everything that `EnsureTar` can do: a hit; a miss whose write is OK; a miss whose write is not (R301). -/
theorem ensureTar_cases (b : Word) (s : State) :
    (tarHit b s = true ∧ ensureTar b s = ⟨ackValueOk, s⟩) ∨
    (tarHit b s = false ∧ ackIsOk (swdWrite true aTar b s).ack = true ∧
      ensureTar b s = ⟨(swdWrite true aTar b s).ack,
        { (swdWrite true aTar b s).state with tarCache := b, tarCacheValid := true }⟩) ∨
    (tarHit b s = false ∧ ackIsOk (swdWrite true aTar b s).ack = false ∧
      ensureTar b s = ⟨(swdWrite true aTar b s).ack,
        { (swdWrite true aTar b s).state with tarCacheValid := false }⟩) := by
  unfold ensureTar
  cases h : tarHit b s <;> cases g : ackIsOk (swdWrite true aTar b s).ack <;> simp [g]

end Sys2Proof.Machine
end

