-- ==== Sys2Proof/Laws/Access.lean ====
section
/-! SUPPORT. What a DMI access over SWD, an upcall and `connect` can do, said once for the provers. -/

namespace Sys2Proof.Machine

/-! Accesses. -/

theorem sameBeyondWire_ensureTar (b : Word) (s : State) : SameBeyondWire s (ensureTar b s).state := by
  rcases ensureTar_cases b s with ⟨_, h⟩ | ⟨_, _, h⟩ | ⟨_, _, h⟩
  · rw [h]; exact SameBeyondWire.refl s
  · rw [h]; exact (sameBeyondWire_swdWrite true aTar b s).trans (by constructor <;> rfl)
  · rw [h]; exact (sameBeyondWire_swdWrite true aTar b s).trans (by constructor <;> rfl)

theorem sameBeyondWire_accessFault (k : Ack) (s : State) : SameBeyondWire s (accessFault k s) := by
  constructor <;> rfl

theorem sameBeyondWire_failRead (k : Ack) (s : State) : SameBeyondWire s (failRead k s).2 := by
  constructor <;> rfl

/-- Everything that `DmiRead` can do: it fails at TAR, at DRW or at RDBUF, or it returns what RDBUF holds (R302). -/
theorem dmiReadAccess_cases (addr : DmiAddr) (s : State) :
    let e := ensureTar (byteAddr addr) s
    let p := swdRead true aDrw e.state
    let r := swdRead false aRdbuf p.state
    (ackIsOk e.ack = false ∧ dmiReadAccess addr s = failRead e.ack e.state) ∨
    (ackIsOk e.ack = true ∧ ackIsOk p.ack = false ∧ dmiReadAccess addr s = failRead p.ack p.state) ∨
    (ackIsOk e.ack = true ∧ ackIsOk p.ack = true ∧ ackIsOk r.ack = false ∧
      dmiReadAccess addr s = failRead r.ack r.state) ∨
    (ackIsOk e.ack = true ∧ ackIsOk p.ack = true ∧ ackIsOk r.ack = true ∧
      dmiReadAccess addr s = (r.data, r.state)) := by
  intro e p r
  cases he : ackIsOk e.ack
  · exact .inl ⟨rfl, by simp only [dmiReadAccess]; rw [if_neg (by rw [he]; decide)]⟩
  · cases hp : ackIsOk p.ack
    · exact .inr (.inl ⟨rfl, rfl, by
        simp only [dmiReadAccess]; rw [if_pos he, if_neg (by rw [hp]; decide)]⟩)
    · cases hr : ackIsOk r.ack
      · exact .inr (.inr (.inl ⟨rfl, rfl, rfl, by
          simp only [dmiReadAccess]; rw [if_pos he, if_pos hp, if_neg (by rw [hr]; decide)]⟩))
      · exact .inr (.inr (.inr ⟨rfl, rfl, rfl, by
          simp only [dmiReadAccess]; rw [if_pos he, if_pos hp, if_pos hr]⟩))

/-- Everything that `DmiWrite` can do: it fails at TAR or at DRW, or both are OK (R303). -/
theorem dmiWriteAccess_cases (addr : DmiAddr) (data : Word) (s : State) :
    let e := ensureTar (byteAddr addr) s
    let w := swdWrite true aDrw data e.state
    (ackIsOk e.ack = false ∧ dmiWriteAccess addr data s = accessFault e.ack e.state) ∨
    (ackIsOk e.ack = true ∧ ackIsOk w.ack = false ∧ dmiWriteAccess addr data s = accessFault w.ack w.state) ∨
    (ackIsOk e.ack = true ∧ ackIsOk w.ack = true ∧ dmiWriteAccess addr data s = w.state) := by
  intro e w
  cases he : ackIsOk e.ack
  · exact .inl ⟨rfl, by simp only [dmiWriteAccess]; rw [if_neg (by rw [he]; decide)]⟩
  · cases hw : ackIsOk w.ack
    · exact .inr (.inl ⟨rfl, rfl, by
        simp only [dmiWriteAccess]; rw [if_pos he, if_neg (by rw [hw]; decide)]⟩)
    · exact .inr (.inr ⟨rfl, rfl, by simp only [dmiWriteAccess]; rw [if_pos he, if_pos hw]⟩)

theorem sameBeyondWire_dmiReadAccess (addr : DmiAddr) (s : State) : SameBeyondWire s (dmiReadAccess addr s).2 := by
  have he := sameBeyondWire_ensureTar (byteAddr addr) s
  have hp := he.trans (sameBeyondWire_swdRead true aDrw _)
  have hr := hp.trans (sameBeyondWire_swdRead false aRdbuf _)
  rcases dmiReadAccess_cases addr s with ⟨_, h⟩ | ⟨_, _, h⟩ | ⟨_, _, _, h⟩ | ⟨_, _, _, h⟩ <;> rw [h]
  · exact he.trans (sameBeyondWire_failRead _ _)
  · exact hp.trans (sameBeyondWire_failRead _ _)
  · exact hr.trans (sameBeyondWire_failRead _ _)
  · exact hr

theorem sameBeyondWire_dmiWriteAccess (addr : DmiAddr) (data : Word) (s : State) :
    SameBeyondWire s (dmiWriteAccess addr data s) := by
  have he := sameBeyondWire_ensureTar (byteAddr addr) s
  have hw := he.trans (sameBeyondWire_swdWrite true aDrw data _)
  rcases dmiWriteAccess_cases addr data s with ⟨_, h⟩ | ⟨_, _, h⟩ | ⟨_, _, h⟩ <;> rw [h]
  · exact he.trans (sameBeyondWire_accessFault _ _)
  · exact hw.trans (sameBeyondWire_accessFault _ _)
  · exact hw

/-! Upcalls. -/

/-- Everything that a `dmi_read` upcall can end in a next state with (R202). -/
theorem callDmiRead_cases {addr : DmiAddr} {s t : State} (h : callDmiRead addr s = .next t) :
    (s.dmiReadBinding = .unbound ∧ t = s) ∨
    (s.dmiReadBinding = .bridge ∧
      t = { (dmiReadAccess addr (logUpcall (.read addr) s)).2 with
            dmiRdata := (dmiReadAccess addr (logUpcall (.read addr) s)).1 }) ∨
    (s.dmiReadBinding = .environment ∧
      ∃ (rest : List UpcallAnswer) (n : Nat) (v : Word),
        t = { logUpcall (.read addr) s with upcallIn := rest, draws := n, dmiRdata := v }) := by
  unfold callDmiRead at h
  split at h
  · next hb => exact .inl ⟨hb, by simpa [eq_comm] using h⟩
  · next hb => exact .inr (.inl ⟨hb, by simpa [eq_comm] using h⟩)
  · next hb =>
    refine .inr (.inr ⟨hb, ?_⟩)
    split at h
    · cases h
    · next v rest _ => exact ⟨rest, s.draws, v, by simp at h; rw [← h]; rfl⟩
    · exact ⟨s.upcallIn, s.draws + 1, Config.upcallData s.draws, by simp at h; rw [← h]; rfl⟩

/-- Everything that a `dmi_write` upcall can end in a next state with (R203). -/
theorem callDmiWrite_cases {addr : DmiAddr} {data : Word} {s t : State} (h : callDmiWrite addr data s = .next t) :
    (s.dmiWriteBinding = .unbound ∧ t = s) ∨
    (s.dmiWriteBinding = .bridge ∧ t = dmiWriteAccess addr data (logUpcall (.write addr data) s)) ∨
    (s.dmiWriteBinding = .environment ∧
      ∃ rest : List UpcallAnswer, t = { logUpcall (.write addr data) s with upcallIn := rest }) := by
  unfold callDmiWrite at h
  split at h
  · next hb => exact .inl ⟨hb, by simpa [eq_comm] using h⟩
  · next hb => exact .inr (.inl ⟨hb, by simpa [eq_comm] using h⟩)
  · next hb =>
    refine .inr (.inr ⟨hb, ?_⟩)
    split at h
    · cases h
    · next v rest _ => exact ⟨rest, by simpa [eq_comm] using h⟩
    · exact ⟨s.upcallIn, by simp at h; rw [← h]; rfl⟩

/-- An upcall stops the machine only where the environment's function never returns (R176). -/
theorem callDmiRead_stops {addr : DmiAddr} {s : State} :
    (∀ r, callDmiRead addr s = .fault r → s.upcallIn.head? = some .hangs) ∧ ∀ r, callDmiRead addr s ≠ .refused r := by
  unfold callDmiRead
  refine ⟨fun r h => ?_, fun r h => ?_⟩ <;> split at h <;> try cases h
  all_goals split at h <;> first | (cases h; done) | (next he => simp [he])

theorem callDmiWrite_stops {addr : DmiAddr} {data : Word} {s : State} :
    (∀ r, callDmiWrite addr data s = .fault r → s.upcallIn.head? = some .hangs) ∧
    ∀ r, callDmiWrite addr data s ≠ .refused r := by
  unfold callDmiWrite
  refine ⟨fun r h => ?_, fun r h => ?_⟩ <;> split at h <;> try cases h
  all_goals split at h <;> first | (cases h; done) | (next he => simp [he])

/-! `connect`. -/

theorem sameBeyondWire_checkWrite {r : WriteResult} {s : State} (h : SameBeyondWire s r.state) :
    SameBeyondWire s (checkWrite r).state := by
  unfold checkWrite; split <;> exact h

theorem sameBeyondWire_checkRead {r : ReadResult} {k : Word → State → LinkResult} {s : State}
    (h : SameBeyondWire s r.state) (hk : ∀ d t, SameBeyondWire s t → SameBeyondWire s (k d t).state) :
    SameBeyondWire s (checkRead r k).state := by
  unfold checkRead; split
  · exact hk _ _ h
  · exact h

theorem sameBeyondWire_thenStep {r : LinkResult} {k : State → LinkResult} {s : State}
    (h : SameBeyondWire s r.state) (hk : ∀ t, SameBeyondWire s t → SameBeyondWire s (k t).state) :
    SameBeyondWire s (r.thenStep k).state := by
  unfold LinkResult.thenStep; split
  · exact hk _ h
  · exact h

theorem sameBeyondWire_pollPowerUp (n : Nat) {s t : State} (h : SameBeyondWire s t) :
    SameBeyondWire s (pollPowerUp n t).state := by
  induction n generalizing t with
  | zero => exact h
  | succ n ih =>
    refine sameBeyondWire_checkRead (h.trans (sameBeyondWire_swdRead _ _ _)) fun d u hu => ?_
    split
    · exact hu
    · exact ih hu

theorem sameBeyondWire_stepIdentify {s t : State} (h : SameBeyondWire s t) :
    SameBeyondWire s (stepIdentify t).state := by
  refine sameBeyondWire_thenStep (sameBeyondWire_checkWrite (h.trans (sameBeyondWire_swdWrite _ _ _ _))) fun u hu => ?_
  refine sameBeyondWire_checkRead (hu.trans (sameBeyondWire_swdRead _ _ _)) fun _ v hv => ?_
  refine sameBeyondWire_checkRead (hv.trans (sameBeyondWire_swdRead _ _ _)) fun _ w hw => ?_
  split <;> exact hw

/-- The bring-up touches nothing beyond the wire (R328). -/
theorem sameBeyondWire_bringUp (s : State) : SameBeyondWire s (bringUp s).state := by
  have h0 : SameBeyondWire s (stepTargetsel (stepPreamble (stepInitialise s))) := by
    unfold stepTargetsel
    have hi : SameBeyondWire s (stepInitialise s) := by unfold stepInitialise; constructor <;> rfl
    have hp : SameBeyondWire s (stepPreamble (stepInitialise s)) := hi.trans (sameBeyondWire_putBits _ _)
    split
    · exact hp
    · exact hp.trans (sameBeyondWire_swdTargetsel _ _)
  have hw : ∀ {t : State} (a : RegAddr) (d : Word), SameBeyondWire s t →
      SameBeyondWire s (checkWrite (swdWrite false a d t)).state := fun a d h =>
    sameBeyondWire_checkWrite (h.trans (sameBeyondWire_swdWrite _ _ _ _))
  refine sameBeyondWire_thenStep
    (sameBeyondWire_checkRead (h0.trans (sameBeyondWire_swdRead _ _ _)) fun _ _ h => h) fun _ h => ?_
  refine sameBeyondWire_thenStep (hw _ _ h) fun _ h => ?_
  refine sameBeyondWire_thenStep (hw _ _ h) fun _ h => ?_
  refine sameBeyondWire_thenStep (hw _ _ h) fun _ h => ?_
  refine sameBeyondWire_thenStep (sameBeyondWire_pollPowerUp _ h) fun _ h => ?_
  exact sameBeyondWire_thenStep (sameBeyondWire_stepIdentify h) fun _ h => hw _ _ h

theorem sameBeyondWire_connectSucceeded (s : State) : SameBeyondWire s (connectSucceeded s) := by
  constructor <;> rfl

theorem sameBeyondWire_connectFailed (c : Cause) (s : State) : SameBeyondWire s (connectFailed c s) := by
  constructor <;> rfl

/-- `connect` touches nothing beyond the wire but the record of what it returns. -/
theorem sameBeyondWire_connect (s : State) : SameBeyondWire s (connect s) := by
  unfold connect
  split
  · exact (sameBeyondWire_bringUp s).trans (sameBeyondWire_connectSucceeded _)
  · exact (sameBeyondWire_bringUp s).trans (sameBeyondWire_connectFailed _ _)

end Sys2Proof.Machine
end

