-- ==== Sys2Proof/Laws/Cycles.lean ====
section
/-! SUPPORT. Cycle after cycle: what one SWCLK cycle does, how lists of cycles compose, and that the cycles of a request
are its transaction. -/

namespace Sys2Proof.Machine

/-- One step of the SWD-DMI puts one cycle on the wire. -/
theorem swclkCycle_wire (l : Line) (s : State) : ∃ c, (swclkCycle l s).wire = s.wire ++ [c] := by
  cases l <;> exact ⟨_, rfl⟩

/-- One SWCLK cycle touches nothing beyond the wire. -/
theorem sameBeyondWire_swclkCycle (l : Line) (s : State) : SameBeyondWire s (swclkCycle l s) := by
  cases l <;> constructor <;> rfl

@[simp] theorem swclkCycle_returns (l : Line) (s : State) : (swclkCycle l s).returns = s.returns := by cases l <;> rfl
@[simp] theorem swclkCycle_linkFault (l : Line) (s : State) : (swclkCycle l s).linkFault = s.linkFault := by
  cases l <;> rfl
@[simp] theorem swclkCycle_tarCache (l : Line) (s : State) : (swclkCycle l s).tarCache = s.tarCache := by
  cases l <;> rfl
@[simp] theorem swclkCycle_tarCacheValid (l : Line) (s : State) :
    (swclkCycle l s).tarCacheValid = s.tarCacheValid := by cases l <;> rfl
@[simp] theorem swclkCycle_swclk (l : Line) (s : State) : (swclkCycle l s).swclk = false := by cases l <;> rfl

theorem swclkCycles_append (a b : List Line) (s : State) :
    swclkCycles (a ++ b) s =
      ((swclkCycles a s).1 ++ (swclkCycles b (swclkCycles a s).2).1, (swclkCycles b (swclkCycles a s).2).2) := by
  induction a generalizing s with
  | nil => rfl
  | cons l ls ih => simp [swclkCycles, ih]

theorem swclkCycles_wire_length (ls : List Line) (s : State) :
    (swclkCycles ls s).2.wire.length = s.wire.length + ls.length := by
  induction ls generalizing s with
  | nil => rfl
  | cons l ls ih =>
    obtain ⟨c, hc⟩ := swclkCycle_wire l s
    simp only [swclkCycles, ih, hc, List.length_append, List.length_cons, List.length_nil]
    omega

/-- A cycle forgets the direction that SWDIO had. -/
theorem swclkCycle_of_direction (l : Line) (b c : Bool) (s : State) :
    swclkCycle l { s with swclk := b, swdioDriven := c } = swclkCycle l s := by
  cases l <;> rfl

/-- Driven cycles are `put_bits`. -/
theorem swclkCycles_drive {bits : List Bool} (h : bits ≠ []) (s : State) :
    swclkCycles (bits.map Line.drive) s = ([], putBits bits s) := by
  have h1 : ∀ (bs : List Bool) (u : State), (swclkCycles (bs.map Line.drive) u).1 = [] := by
    intro bs
    induction bs with
    | nil => intro u; rfl
    | cons b bs ih => intro u; simp [swclkCycles, levelsIn, ih]
  refine Prod.ext (h1 bits s) ?_
  cases bits with
  | nil => exact absurd rfl h
  | cons b bs => rfl

/-- Sampled cycles are `get_bits`. -/
theorem swclkCycles_sample {n : Nat} (h : n ≠ 0) (s : State) :
    swclkCycles (List.replicate n Line.sample) s = getBits n s := by
  cases n with
  | zero => exact absurd rfl h
  | succ n => rfl

/-- Released cycles are `hiz_clocks`. -/
theorem swclkCycles_release {n : Nat} (h : n ≠ 0) (s : State) :
    swclkCycles (List.replicate n Line.release) s = ([], hizClocks n s) := by
  have h1 : ∀ (n : Nat) (u : State), (swclkCycles (List.replicate n Line.release) u).1 = [] := by
    intro n
    induction n with
    | zero => intro u; rfl
    | succ n ih => intro u; simp [List.replicate_succ, swclkCycles, levelsIn, ih]
  refine Prod.ext (h1 n s) ?_
  cases n with
  | zero => exact absurd rfl h
  | succ n => rfl

theorem lsbFirst_ne_nil {w : Nat} (v : BitVec (w + 1)) : lsbFirst v ≠ [] :=
  List.ne_nil_of_length_pos (by simp)

theorem swclkCycles_headerLines (p r : Bool) (a : RegAddr) (s : State) :
    swclkCycles (headerLines p r a) s = ([], requestPhase p r a s) := by
  rw [headerLines, swclkCycles_append, swclkCycles_drive (lsbFirst_ne_nil _),
    show [Line.release] = List.replicate 1 Line.release from rfl, swclkCycles_release (by decide)]
  rfl

theorem swclkCycles_dataLines (d : Word) (s : State) : swclkCycles (dataLines d) s = ([], driveData d s) := by
  rw [dataLines, swclkCycles_append, swclkCycles_drive (lsbFirst_ne_nil _),
    show [Line.drive (parity d)] = [parity d].map Line.drive from rfl, swclkCycles_drive (by simp)]
  rfl

/-- The cycles of the preamble are step 2 of `connect`. -/
theorem swclkCycles_preamble (s : State) : swclkCycles Request.preamble.lines s = ([], stepPreamble s) :=
  swclkCycles_drive (List.ne_nil_of_length_pos (by simp)) s

/-- The cycles of a read are the read. -/
theorem swclkCycles_read (p : Bool) (a : RegAddr) (s : State) :
    swclkCycles (Request.read p a).lines s = (sampledBits 36 s, (swdRead p a s).state) := by
  rw [Request.lines, swclkCycles_append, swclkCycles_append, swclkCycles_headerLines,
    swclkCycles_sample (by decide), show [Line.release] = List.replicate 1 Line.release from rfl,
    swclkCycles_release (by decide), swdRead_eq]
  simp only [List.nil_append, List.append_nil]
  refine Prod.ext ?_ ?_
  · rw [getBits_eq]
    exact sampledBits_congr (by rw [requestPhase_eq]) (by rw [requestPhase_eq])
  · simp only [getBits_eq, hizClocks_eq, afterRead, readTrace, tookBits]
    rw [requestPhase_eq]
    simp [sampledBits]

/-- The cycles of a write are the write, but for what is noted of SELECT and TAR. -/
theorem swclkCycles_write (p : Bool) (a : RegAddr) (d : Word) (s : State) :
    swclkCycles (Request.write p a d).lines s = (sampledBits 3 s, afterWrite p a d s) := by
  rw [Request.lines, swclkCycles_append, swclkCycles_append, swclkCycles_append, swclkCycles_headerLines,
    swclkCycles_sample (by decide), show [Line.release] = List.replicate 1 Line.release from rfl,
    swclkCycles_release (by decide), swclkCycles_dataLines]
  simp only [List.nil_append, List.append_nil]
  refine Prod.ext ?_ ?_
  · rw [getBits_eq]
    exact sampledBits_congr (by rw [requestPhase_eq]) (by rw [requestPhase_eq])
  · simp only [driveData_eq, getBits_eq, hizClocks_eq, afterWrite, writeTrace, tookBits]
    rw [requestPhase_eq]
    simp [sampledBits]

/-- The cycles of TARGETSEL are TARGETSEL. -/
theorem swclkCycles_targetsel (d : Word) (s : State) :
    swclkCycles (Request.targetsel d).lines s = ([], swdTargetsel d s) := by
  rw [Request.lines, swclkCycles_append, swclkCycles_append, swclkCycles_drive (lsbFirst_ne_nil _),
    swclkCycles_release (by decide), swclkCycles_dataLines]
  rfl

/-! The steps of the SWD-DMI between the events. -/

theorem requestLines_ne_nil (r : Request) : r.lines ≠ [] := by
  apply List.ne_nil_of_length_pos
  cases r <;> simp [Request.lines, headerLines, dataLines]

/-- What a transaction asks for does not change while its cycles are made. -/
theorem request_swclkCycle (st : Stage) (l : Line) (s : State) : st.request (swclkCycle l s) = st.request s := by
  cases st <;> cases l <;> rfl

@[simp] theorem noteRequest_wire (r : Request) (levels : List Bool) (s : State) :
    (noteRequest r levels s).wire = s.wire := by
  unfold noteRequest; split <;> simp

theorem sameBeyondWire_noteRequest (r : Request) (levels : List Bool) (s : State) :
    SameBeyondWire s (noteRequest r levels s) := by
  unfold noteRequest
  split
  · exact sameBeyondWire_noteWrite _ _ _ _ _
  · exact .refl s

/-- Going on after a transaction makes no cycle. -/
@[simp] theorem afterStage_wire (c : Caller) (st : Stage) (levels : List Bool) (s : State) :
    (afterStage c st levels s).state.wire = s.wire := by
  cases st <;> simp only [afterStage, orLinkFault] <;> (repeat' split) <;>
    first
    | rfl
    | (cases c <;> rfl)
    | (simp only [beginPoll]; split <;> rfl)

/-- One step of the SWD-DMI is one SWCLK cycle. -/
theorem swdStep_wire {j : SwdJob} (h : j.todo ≠ []) (s : State) :
    ∃ c, (swdStep j s).state.wire = s.wire ++ [c] := by
  unfold swdStep
  split
  · next he => exact absurd he h
  · next l rest _ =>
    obtain ⟨c, hc⟩ := swclkCycle_wire l s
    refine ⟨c, ?_⟩
    simp only
    split
    · simp [hc]
    · exact hc

/-- The levels sampled in a read give its ACK and its data. -/
theorem ackOf_read (p : Bool) (a : RegAddr) (s : State) : ackOf (sampledBits 36 s) = (swdRead p a s).ack := by
  rw [swdRead_eq]

theorem dataOf_read (p : Bool) (a : RegAddr) (s : State) : dataOf (sampledBits 36 s) = (swdRead p a s).data := by
  rw [swdRead_eq]

/-- The levels sampled in a write give its ACK, and noting them makes the whole write. -/
theorem ackOf_write (p : Bool) (a : RegAddr) (d : Word) (s : State) :
    ackOf (sampledBits 3 s) = (swdWrite p a d s).ack := by
  rw [swdWrite_eq, ackOf, List.take_of_length_le (by simp)]

theorem noteRequest_write (p : Bool) (a : RegAddr) (d : Word) (s : State) :
    noteRequest (.write p a d) (sampledBits 3 s) (afterWrite p a d s) = (swdWrite p a d s).state := by
  rw [swdWrite_eq, noteRequest, ackOf, List.take_of_length_le (by simp)]

theorem cycleRun_add (m n : Nat) (b c : CycleState) (h : cycleRun m b = .next c) :
    cycleRun (m + n) b = cycleRun n c := by
  induction m generalizing b with
  | zero => cases h; simp
  | succ m ih =>
    rw [show m + 1 + n = (m + n) + 1 by omega]
    simp only [cycleRun] at h ⊢
    split at h
    · exact ih _ h
    · cases h
    · cases h

end Sys2Proof.Machine
end

