-- ==== Sys2Proof/Laws/Step.lean ====
section
/-! SUPPORT. What a step can do: the calls it takes, one at a time, and the outcomes it can end in. -/

namespace Sys2Proof.Machine

@[simp] theorem continueWith_next (s : State) (k : State → State) : continueWith (.next s) k = .next (k s) := rfl
@[simp] theorem continueWith_fault (r : Fault) (k : State → State) : continueWith (.fault r) k = .fault r := rfl
@[simp] theorem continueWith_refused (r : Refusal) (k : State → State) : continueWith (.refused r) k = .refused r := rfl

/-- A next state after `continueWith` comes from a next state before it. -/
theorem continueWith_eq_next {o : Result} {k : State → State} {t : State} (h : continueWith o k = .next t) :
    ∃ s, o = .next s ∧ t = k s := by
  cases o with
  | next s => exact ⟨s, rfl, by simpa [eq_comm] using h⟩
  | fault r => simp at h
  | refused r => simp at h

/-- With the framer at rest the head of the queue is taken. -/
theorem nextWork_of_events {s : State} {e : Event} {rest : List Event} (hf : s.framer = .idle)
    (he : s.events = e :: rest) : nextWork s = callWork e { s with events := rest } := by
  simp [nextWork, hf, he]

/-- With the framer at rest and no call pending there is nothing to do. -/
theorem nextWork_of_no_events {s : State} (hf : s.framer = .idle) (he : s.events = []) : nextWork s = .rest := by
  simp [nextWork, hf, he]

/-- Away from rest the framer's ACK comes first. -/
theorem nextWork_of_framer {s : State} (hf : s.framer ≠ .idle) :
    nextWork s = .run (decodeAck (ackPhase s).1) (ackPhase s).2 := by
  simp [nextWork, hf]

@[simp] theorem run_zero (s : State) : run 0 s = .next s := rfl

theorem run_succ_of_next {k : Nat} {s t : State} (h : step s = .next t) : run (k + 1) s = run k t := by
  simp [run, h]

theorem run_succ (k : Nat) (s : State) :
    run (k + 1) s = match step s with
      | .next t => run k t
      | .fault r => .fault r
      | .refused r => .refused r := rfl

/-- Runs compose. -/
theorem run_add (m n : Nat) (s t : State) (h : run m s = .next t) : run (m + n) s = run n t := by
  induction m generalizing s with
  | zero => simp at h; simp [h]
  | succ m ih =>
    rw [Nat.succ_add, run_succ]
    rw [run_succ] at h
    cases hs : step s with
    | next u => rw [hs] at h; exact ih u h
    | fault r => rw [hs] at h; simp at h
    | refused r => rw [hs] at h; simp at h

end Sys2Proof.Machine
end

