-- ==== Sys2Proof/Laws/Edges.lean ====
section
/-! SUPPORT. What one step can do, call by call; and one TCK cycle run as its four calls. -/

namespace Sys2Proof.Machine

/-- A rising edge: the framer at rest, TCK low, and what it leads to. -/
theorem step_rising {s : State} {rest : List Event} (hf : s.framer = .idle) (hc : s.tck = false)
    (he : s.events = .setTck true :: rest) :
    step s = continueWith (exec (tapInstr s) { s with events := rest }) finishRisingEdge := by
  simp [step, nextWork_of_events hf he, callWork, setTck, hc, tapInstr]

/-- Everything that a step can end in a next state with: nothing to do; the ACK of a header sent by itself; a rising
edge; a word of the framer; or a call that is wholly described by the state it leaves. -/
theorem step_cases {s t : State} (h : step s = .next t) :
    (s.framer = .idle ∧ s.events = [] ∧ t = s) ∨
    (s.framer ≠ .idle ∧ exec (decodeAck (ackPhase s).1) (ackPhase s).2 = .next t) ∨
    ∃ (e : Event) (rest : List Event), s.framer = .idle ∧ s.events = e :: rest ∧
      ((e = .setTck true ∧ s.tck = false ∧
          ∃ u, exec (tapInstr s) { s with events := rest } = .next u ∧ t = finishRisingEdge u) ∨
        (∃ i u, callWork e { s with events := rest } = .run i u ∧ exec i u = .next t) ∨
        callWork e { s with events := rest } = .done t) := by
  by_cases hf : s.framer = .idle
  · cases he : s.events with
    | nil =>
      simp only [step, nextWork_of_no_events hf he] at h
      exact .inl ⟨hf, rfl, by simpa [eq_comm] using h⟩
    | cons e rest =>
      refine .inr (.inr ⟨e, rest, hf, rfl, ?_⟩)
      simp only [step, nextWork_of_events hf he] at h
      cases hw : callWork e { s with events := rest } with
      | rest =>
        exfalso
        cases e <;> simp [callWork, setTck, framerWork] at hw <;> split at hw <;> cases hw
      | edge i u =>
        rw [hw] at h
        have : e = .setTck true ∧ s.tck = false ∧ i = tapInstr s ∧ u = { s with events := rest } := by
          cases e <;> simp [callWork, framerWork] at hw <;> try (split at hw <;> cases hw)
          next v =>
            simp only [setTck] at hw
            split at hw
            · next h1 => cases hw; exact ⟨rfl, h1, rfl, rfl⟩
            all_goals cases hw
        obtain ⟨h1, h2, rfl, rfl⟩ := this
        obtain ⟨v, hv, rfl⟩ := continueWith_eq_next h
        exact .inl ⟨h1, h2, v, hv, rfl⟩
      | run i u => rw [hw] at h; exact .inr (.inl ⟨i, u, rfl, h⟩)
      | done u => rw [hw] at h; cases h; exact .inr (.inr rfl)
      | reject r => rw [hw] at h; cases h
  · exact .inr (.inl ⟨hf, by simpa [step, nextWork_of_framer hf] using h⟩)

/-- One TCK cycle (R15) run as its four calls: the two stores, the rising edge with its action, the falling edge. -/
theorem run_pulse {s u : State} {tms tdi : Bool} {rest : List Event} (hf : s.framer = .idle) (hc : s.tck = false)
    (he : s.events = pulse tms tdi ++ rest)
    (hx : exec (tapInstr s) { s with tms := tms, tdi := tdi, events := .setTck false :: rest } = .next u)
    (hu : u.framer = .idle) (hv : u.events = .setTck false :: rest) :
    run 4 s = .next (fallingEdge { finishRisingEdge u with events := rest }) := by
  have h1 : step s = .next { s with tms := tms, events := [.setTdi tdi, .setTck true, .setTck false] ++ rest } := by
    simp [step, nextWork_of_events hf (show s.events = .setTms tms :: ([.setTdi tdi, .setTck true, .setTck false] ++ rest)
      by simpa [pulse] using he), callWork]
  have h2 : step { s with tms := tms, events := [.setTdi tdi, .setTck true, .setTck false] ++ rest } =
      .next { s with tms := tms, tdi := tdi, events := [.setTck true, .setTck false] ++ rest } := by
    simp [step, nextWork, hf, callWork]
  have h3 : step { s with tms := tms, tdi := tdi, events := [.setTck true, .setTck false] ++ rest } =
      .next (finishRisingEdge u) := by
    refine (step_rising (s := { s with tms := tms, tdi := tdi, events := .setTck true :: .setTck false :: rest })
      hf hc rfl).trans ?_
    exact congrArg (continueWith · finishRisingEdge) hx
  have h4 : step (finishRisingEdge u) = .next (fallingEdge { finishRisingEdge u with events := rest }) := by
    simp only [step, nextWork_of_events (s := finishRisingEdge u) hu hv]
    rfl
  rw [run_succ_of_next h1, run_succ_of_next h2, run_succ_of_next h3, run_succ_of_next h4, run_zero]

/-- A look at TDO. -/
theorem step_getTdo {s : State} {rest : List Event} (hf : s.framer = .idle) (he : s.events = .getTdo :: rest) :
    step s = .next (answer (.tdo s.tdo) { s with events := rest }) := by
  simp [step, nextWork_of_events hf he, callWork]

end Sys2Proof.Machine
end

