-- ==== Sys2Proof/Laws/PerInstr.lean ====
section
/-! SUPPORT. Facts of every instruction, one lemma for each constructor of Instr: its word fits its format. -/

namespace Sys2Proof.Laws.EncodeFits

/-- The encoder sets no bit above the width of the instruction's format. -/
def Statement (i : Instr) : Prop := (encode i).2.toNat < 2 ^ (encode i).1.width

theorem setWidth_lt (v : ShiftReg) : (v.setWidth 46 : PacketWord).toNat < 2 ^ 42 := by
  rw [BitVec.toNat_setWidth_of_le (by omega)]; exact v.isLt

theorem bypass : Statement (.bypass) := by unfold Statement; decide

theorem idcode : Statement (.idcode) := by unfold Statement; decide

theorem dtmcs : Statement (.dtmcs) := by unfold Statement; decide

theorem dmi : Statement (.dmi) := by unfold Statement; decide

theorem undef0203 (low : BitVec 1) : Statement (.undef0203 low) := by
  unfold Statement; revert low; decide

theorem undef0407 (low : BitVec 2) : Statement (.undef0407 low) := by
  unfold Statement; revert low; decide

theorem undef080F (low : BitVec 3) : Statement (.undef080F low) := by
  unfold Statement; revert low; decide

theorem undef1213 (low : BitVec 1) : Statement (.undef1213 low) := by
  unfold Statement; revert low; decide

theorem undef1417 (low : BitVec 2) : Statement (.undef1417 low) := by
  unfold Statement; revert low; decide

theorem undef181F (low : BitVec 3) : Statement (.undef181F low) := by
  unfold Statement; revert low; decide

theorem dmiNop (addr : DmiAddr) (data : Word) : Statement (.dmiNop addr data) :=
  setWidth_lt _

theorem dmiRead (addr : DmiAddr) (data : Word) : Statement (.dmiRead addr data) :=
  setWidth_lt _

theorem dmiWrite (addr : DmiAddr) (data : Word) : Statement (.dmiWrite addr data) :=
  setWidth_lt _

theorem dmiReserved (addr : DmiAddr) (data : Word) : Statement (.dmiReserved addr data) :=
  setWidth_lt _

theorem dpAbortWr : Statement (.dpAbortWr) := by unfold Statement; decide

theorem dpCtrlstatWr : Statement (.dpCtrlstatWr) := by unfold Statement; decide

theorem dpSelectWr : Statement (.dpSelectWr) := by unfold Statement; decide

theorem dpTargetselWr : Statement (.dpTargetselWr) := by unfold Statement; decide

theorem dpDpidrRd : Statement (.dpDpidrRd) := by unfold Statement; decide

theorem dpCtrlstatRd : Statement (.dpCtrlstatRd) := by unfold Statement; decide

theorem hdrDpRdA2 : Statement (.hdrDpRdA2) := by unfold Statement; decide

theorem dpRdbufRd : Statement (.dpRdbufRd) := by unfold Statement; decide

theorem hdrApWrA0 : Statement (.hdrApWrA0) := by unfold Statement; decide

theorem apTarWr : Statement (.apTarWr) := by unfold Statement; decide

theorem hdrApWrA2 : Statement (.hdrApWrA2) := by unfold Statement; decide

theorem apDrwWr : Statement (.apDrwWr) := by unfold Statement; decide

theorem hdrApRdA0 : Statement (.hdrApRdA0) := by unfold Statement; decide

theorem hdrApRdA1 : Statement (.hdrApRdA1) := by unfold Statement; decide

theorem hdrApRdA2 : Statement (.hdrApRdA2) := by unfold Statement; decide

theorem apIdrDrwRd : Statement (.apIdrDrwRd) := by unfold Statement; decide

theorem ackOk : Statement (.ackOk) := by unfold Statement; decide

theorem ackWait : Statement (.ackWait) := by unfold Statement; decide

theorem ackFault : Statement (.ackFault) := by unfold Statement; decide

theorem ackDisconnected : Statement (.ackDisconnected) := by unfold Statement; decide

theorem ack000 : Statement (.ack000) := by unfold Statement; decide

theorem ack011 : Statement (.ack011) := by unfold Statement; decide

theorem ack101 : Statement (.ack101) := by unfold Statement; decide

theorem ack110 : Statement (.ack110) := by unfold Statement; decide

theorem swdReadPacket (apndp : Bool) (a : RegAddr) : Statement (.swdReadPacket apndp a) := BitVec.isLt _

theorem swdWritePacket (apndp : Bool) (a : RegAddr) (data : Word) : Statement (.swdWritePacket apndp a data) := BitVec.isLt _

theorem swdTargetselPacket (data : Word) : Statement (.swdTargetselPacket data) := BitVec.isLt _

end Sys2Proof.Laws.EncodeFits
end

