-- ==== Sys2Proof/Tests/Slice0.lean ====
section
/-! SUPPORT. The model's own tests: decoding of words written out from the spec, small steps with the values of
spec/95, and for every statement that has hypotheses a witness that meets them. -/

namespace Sys2Proof.Tests

open Sys2Proof Sys2Proof.Machine

/-! Helpers. -/

/-- The instances of spec/95: `idcode` 0xDEADBEEF, `targetsel` 0, `apsel` 0, else as constructed. -/
def base : State := { State.reset with idcode := 0xDEADBEEF#32, targetsel := 0#32, apsel := 0#8 }

/-- `base` with the TAP in `tap`, `ir` and `shifter` as given. -/
def inTap (tap : TapState) (ir : IrCode) (shifter : ShiftReg) : State :=
  { base with tapState := tap, ir := ir, shifter := shifter }

/-- `s` with these calls to come. -/
def calls (es : List Event) (s : State) : State := { s with events := es }

/-- `s` with these levels to be sampled. -/
def answers (bits : List Bool) (s : State) : State := { s with swdioIn := bits }

/-- What `f` sees of the next state. -/
def seen {α : Type} (f : State → α) (r : Result) : Option α :=
  match r with
  | .next s => some (f s)
  | _ => none

def isFault (r : Result) : Bool :=
  match r with
  | .fault _ => true
  | _ => false

def isRefused (r : Result) : Bool :=
  match r with
  | .refused _ => true
  | _ => false

/-- A cycle trace in the letters of spec/43. -/
def letter : Cycle → Char
  | .driven true => '1'
  | .driven false => '0'
  | .sampled true => 'h'
  | .sampled false => 'l'
  | .released => 'z'

def ok : Ack := 0b001#3
def wait : Ack := 0b010#3

/-- A VDTM about to update the DMI word `w`, both upcalls the environment's, with `us` as their answers. -/
def dmiUpdate (w : ShiftReg) (us : List UpcallAnswer) : State :=
  { inTap .sUpdateDr 0x11#5 w with dmiReadBinding := .environment, dmiWriteBinding := .environment, upcallIn := us }

/-- The assembled bridge with these levels to be sampled. -/
def bridge (bits : List Bool) : State :=
  answers bits { base with dmiReadBinding := .bridge, dmiWriteBinding := .bridge }

/-- The same with 0x40 in the TAR cache. -/
def bridgeHit (bits : List Bool) : State :=
  { bridge bits with tarCache := 0x40#32, tarCacheValid := true, tarShadow := some 0x40#32 }

/-! WellFormed: the one check, and its neighbours at the edge. -/

theorem test_wellFormed_refuses_dp_write_at_targetsel : ¬ Instr.WellFormed (.swdWritePacket false 0b11#2 7#32) := by
  decide
theorem test_wellFormed_admits_ap_write_at_drw : Instr.WellFormed (.swdWritePacket true 0b11#2 7#32) := by decide
theorem test_wellFormed_admits_dp_write_at_select : Instr.WellFormed (.swdWritePacket false 0b10#2 7#32) := by decide

/-! Decoding: every constructor from a word of the tables (R100, R101, R102, R93, R94). -/

theorem test_decode_bypass : decode .ir 0b00000#46 = .ok .bypass := rfl
theorem test_decode_idcode : decode .ir 0b00001#46 = .ok .idcode := rfl
theorem test_decode_dtmcs : decode .ir 0b10000#46 = .ok .dtmcs := rfl
theorem test_decode_dmi : decode .ir 0b10001#46 = .ok .dmi := rfl
theorem test_decode_undef0203 : decode .ir 0b00011#46 = .ok (.undef0203 1#1) := rfl
theorem test_decode_undef0407 : decode .ir 0b00101#46 = .ok (.undef0407 0b01#2) := rfl
theorem test_decode_undef080F : decode .ir 0b01110#46 = .ok (.undef080F 0b110#3) := rfl
theorem test_decode_undef1213 : decode .ir 0b10010#46 = .ok (.undef1213 0#1) := rfl
theorem test_decode_undef1417 : decode .ir 0b10110#46 = .ok (.undef1417 0b10#2) := rfl
theorem test_decode_undef181F : decode .ir 0b11111#46 = .ok (.undef181F 0b111#3) := rfl
/-- `dmi_scan(0x10, 0x12345678, 0)`: by R97 this is 0x4048D159E0; V19 prints a digit too many (43 bits). -/
theorem test_decode_dmiNop : decode .dmiDr 0x4048D159E0#46 = .ok (.dmiNop 0x10#8 0x12345678#32) := rfl
/-- V3. -/
theorem test_decode_dmiRead : decode .dmiDr 0x4400000001#46 = .ok (.dmiRead 0x11#8 0#32) := rfl
/-- V19, the edge of both fields. -/
theorem test_decode_dmiWrite : decode .dmiDr 0x3FFFFFFFFFE#46 = .ok (.dmiWrite 0xFF#8 0xFFFFFFFF#32) := rfl
theorem test_decode_dmiReserved : decode .dmiDr 0x4000000007#46 = .ok (.dmiReserved 0x10#8 1#32) := rfl
theorem test_decode_dpAbortWr : decode .header 0b10000001#46 = .ok .dpAbortWr := rfl
theorem test_decode_dpCtrlstatWr : decode .header 0b10101001#46 = .ok .dpCtrlstatWr := rfl
theorem test_decode_dpSelectWr : decode .header 0b10110001#46 = .ok .dpSelectWr := rfl
theorem test_decode_dpTargetselWr : decode .header 0b10011001#46 = .ok .dpTargetselWr := rfl
theorem test_decode_dpDpidrRd : decode .header 0b10100101#46 = .ok .dpDpidrRd := rfl
theorem test_decode_dpCtrlstatRd : decode .header 0b10001101#46 = .ok .dpCtrlstatRd := rfl
theorem test_decode_hdrDpRdA2 : decode .header 0b10010101#46 = .ok .hdrDpRdA2 := rfl
theorem test_decode_dpRdbufRd : decode .header 0b10111101#46 = .ok .dpRdbufRd := rfl
theorem test_decode_hdrApWrA0 : decode .header 0b10100011#46 = .ok .hdrApWrA0 := rfl
theorem test_decode_apTarWr : decode .header 0b10001011#46 = .ok .apTarWr := rfl
theorem test_decode_hdrApWrA2 : decode .header 0b10010011#46 = .ok .hdrApWrA2 := rfl
theorem test_decode_apDrwWr : decode .header 0b10111011#46 = .ok .apDrwWr := rfl
theorem test_decode_hdrApRdA0 : decode .header 0b10000111#46 = .ok .hdrApRdA0 := rfl
theorem test_decode_hdrApRdA1 : decode .header 0b10101111#46 = .ok .hdrApRdA1 := rfl
theorem test_decode_hdrApRdA2 : decode .header 0b10110111#46 = .ok .hdrApRdA2 := rfl
theorem test_decode_apIdrDrwRd : decode .header 0b10011111#46 = .ok .apIdrDrwRd := rfl
theorem test_decode_ackOk : decode .ack 0b001#46 = .ok .ackOk := rfl
theorem test_decode_ackWait : decode .ack 0b010#46 = .ok .ackWait := rfl
theorem test_decode_ackFault : decode .ack 0b100#46 = .ok .ackFault := rfl
theorem test_decode_ackDisconnected : decode .ack 0b111#46 = .ok .ackDisconnected := rfl
theorem test_decode_ack000 : decode .ack 0b000#46 = .ok .ack000 := rfl
theorem test_decode_ack011 : decode .ack 0b011#46 = .ok .ack011 := rfl
theorem test_decode_ack101 : decode .ack 0b101#46 = .ok .ack101 := rfl
theorem test_decode_ack110 : decode .ack 0b110#46 = .ok .ack110 := rfl
/-- The trace `10110001 z hll ...` of V23, cycle 0 in bit 0; the sampled cycles decide nothing. -/
theorem test_decode_swdReadPacket : decode .packet 0x28D#46 = .ok (.swdReadPacket false 0b01#2) := rfl
/-- `11011101 z hll z`, data 0x80000001 in cycles 13 to 44, parity 0 in cycle 45 (V24). -/
theorem test_decode_swdWritePacket :
    decode .packet 0x1000000022BB#46 = .ok (.swdWritePacket true 0b11#2 0x80000001#32) := rfl
/-- `10011001 zzzzz`, data 0x00000001, parity 1 (V25). -/
theorem test_decode_swdTargetselPacket :
    decode .packet 0x200000002099#46 = .ok (.swdTargetselPacket 0x00000001#32) := rfl

theorem test_reject_start : decode .header 0x8C#46 = .error .badStart := rfl
theorem test_reject_stop : decode .header 0xCD#46 = .error .badStop := rfl
theorem test_reject_park : decode .header 0x0D#46 = .error .badPark := rfl
theorem test_reject_header_parity : decode .header 0xAD#46 = .error .badHeaderParity := rfl
theorem test_reject_data_parity : decode .packet 0x2099#46 = .error .badDataParity := rfl
theorem test_reject_overlong : decode .ir 0x20#46 = .error .overlong := rfl

/-- The table's own numbering: a word of each format that a width in whole bytes tells apart. -/
theorem test_tableWords :
    decodeTableWord 8 0x10 = some .dtmcs ∧ decodeTableWord 8 0xA5 = some .dpDpidrRd ∧
    decodeTableWord 3 0x2 = some .ackWait ∧ decodeTableWord 48 0x4000000006 = some (.dmiWrite 0x10#8 1#32) ∧
    decodeTableWord 48 0x200000002099 = some (.swdTargetselPacket 1#32) ∧ decodeTableWord 8 0xAD = none := by
  decide

/-- From reset, a placed word runs as the very next instruction: IDCODE, a DMI operation, a header, an ACK, a packet. -/
theorem test_placed_words_run :
    seen (·.tapState) (step (State.reset.withFetchWord 8 0x01)) = some .sShiftDr ∧
    seen (·.tapState) (step (State.reset.withFetchWord 48 0x4000000006)) = some .sRunIdle ∧
    seen (·.framer) (step (State.reset.withFetchWord 8 0xA5)) = some .reading ∧
    seen (·.framer) (step (State.reset.withFetchWord 3 0x2)) = some .idle ∧
    seen (·.wire.length) (step (State.reset.withFetchWord 48 0x200000002099)) = some 46 := by
  refine ⟨rfl, rfl, rfl, rfl, rfl⟩

/-! Single steps with the values of spec/95. -/

/-- V10 pulse 5. -/
theorem test_idcode_capture : seen (·.shifter) (exec .idcode (inTap .sCaptureDr 1#5 0#42)) = some 0xDEADBEEF#42 := by
  decide
/-- V10 pulse 6: TDI = 1 enters at bit 31. -/
theorem test_idcode_shift :
    seen (·.shifter) (exec .idcode { inTap .sShiftDr 1#5 0xDEADBEEF#42 with tdi := true }) = some 0xEF56DF77#42 := by
  decide
/-- V14: a captured 0. -/
theorem test_bypass_capture : seen (·.shifter) (exec .bypass (inTap .sCaptureDr 0#5 0x1F#42)) = some 0#42 := by decide
theorem test_bypass_shift :
    seen (·.shifter) (exec .bypass { inTap .sShiftDr 0#5 0#42 with tdi := true }) = some 1#42 := by decide
/-- V31. -/
theorem test_dtmcs_capture : seen (·.shifter) (exec .dtmcs (inTap .sCaptureDr 0x10#5 0#42)) = some 0x81#42 := by decide
theorem test_dtmcs_update :
    seen id (exec .dtmcs (inTap .sUpdateDr 0x10#5 0x30000#42)) = some (inTap .sUpdateDr 0x10#5 0x30000#42) := rfl
/-- R169's example. -/
theorem test_dmi_capture :
    seen (·.shifter) (exec .dmi { inTap .sCaptureDr 0x11#5 0#42 with dmiRdata := 0xCAFEBABE#32 }) =
      some 0x32BFAEAF8#42 := by decide
/-- V17: ten TDI ones into a captured 0x32BFAEAF8; the tenth shift. -/
theorem test_dmi_shift :
    seen (·.shifter) (exec .dmi { inTap .sShiftDr 0x11#5 0x3FE0195FD75#42 with tdi := true }) =
      some 0x3FF00CAFEBA#42 := by decide
/-- V12: capture leaves 0x1F, and the masked shift leaves TDI alone (D7). -/
theorem test_undef181F_capture :
    seen (·.shifter) (exec (.undef181F 0b111#3) (inTap .sCaptureDr 0x1F#5 0x1F#42)) = some 0x1F#42 := by decide
theorem test_undef181F_shift :
    seen (·.shifter) (exec (.undef181F 0b111#3) (inTap .sShiftDr 0x1F#5 0x1F#42)) = some 0#42 := by decide
theorem test_undef0203_shift :
    seen (·.shifter) (exec (.undef0203 0#1) (inTap .sShiftDr 2#5 0x3FFFFFFFFFF#42)) = some 0#42 := by decide
/-- V13 step d. -/
theorem test_undef0407_capture :
    seen (·.shifter) (exec (.undef0407 0b01#2) (inTap .sCaptureDr 5#5 5#42)) = some 5#42 := by decide
theorem test_undef080F_shift :
    seen (·.shifter) (exec (.undef080F 0#3) { inTap .sShiftDr 8#5 0x10#42 with tdi := true }) = some 1#42 := by decide
theorem test_undef1213_capture :
    seen (·.shifter) (exec (.undef1213 1#1) (inTap .sCaptureDr 0x13#5 0x12#42)) = some 0x12#42 := by decide
theorem test_undef1417_shift :
    seen (·.shifter) (exec (.undef1417 0b11#2) (inTap .sShiftDr 0x17#5 3#42)) = some 0#42 := by decide

/-- V10 pulses 19 and 27, R162's example, V10 pulse 34: the IR path. -/
theorem test_ir_path :
    seen (·.shifter) (step (calls [.setTck true] { inTap .sShiftIr 1#5 1#42 with tdi := true })) = some 0x10#42 ∧
    seen (·.ir) (step (calls [.setTck true] (inTap .sUpdateIr 1#5 0x1C#42))) = some 0x1C#5 ∧
    seen (·.shifter) (step (calls [.setTck true] (inTap .sCaptureIr 0x11#5 0x3FF#42))) = some 0x11#42 ∧
    seen (·.ir) (step (calls [.setTck true] { inTap .sSelectIr 0x1C#5 0#42 with tms := true })) = some 1#5 := by
  decide

/-- R201, R204: no upcall. -/
theorem test_dmiNop : seen (·.upcalls) (step (calls [.setTck true] (dmiUpdate 0x4048D159E0#42 []))) = some [] := by
  decide
theorem test_dmiReserved : seen (·.upcalls) (step (calls [.setTck true] (dmiUpdate 0x4000000007#42 []))) = some [] := by
  decide
/-- R202's example, and the unbound case of V19. -/
theorem test_dmiRead :
    seen (fun s => (s.upcalls, s.dmiRdata))
      (step (calls [.setTck true] (dmiUpdate 0x4400000001#42 [.returns 0xCAFEBABE#32]))) =
      some ([.read 0x11#8], 0xCAFEBABE#32) := by decide
theorem test_dmiRead_unbound :
    seen (fun s => (s.upcalls, s.dmiRdata)) (exec (.dmiRead 0x10#8 1#32) base) = some ([], 0#32) := by decide
/-- R203's example. -/
theorem test_dmiWrite :
    seen (·.upcalls) (step (calls [.setTck true] (dmiUpdate 0x4000000006#42 [.returns 0#32]))) =
      some [.write 0x10#8 1#32] := by decide
/-- V29 access 1. -/
theorem test_dmiWrite_wire :
    seen (fun s => String.ofList (s.wire.map letter)) (exec (.dmiWrite 0x10#8 1#32) (bridge (writeAnswer ok ++ writeAnswer ok)))
      = some "11010001zhllz00000010000000000000000000000000111011101zhllz100000000000000000000000000000001" := by
  set_option maxRecDepth 8000 in decide
/-- V33, second row: the RDBUF read is not sent and the cache stays valid. -/
theorem test_dmiRead_fault :
    seen (fun s => (s.wire.length, s.linkFault, s.tarCacheValid, s.tarCache))
      (exec (.dmiRead 0x10#8 0#32) (bridge (writeAnswer ok ++ readAnswer 0b100#3 0#32 false))) =
      some (92, some 0b100#3, true, 0x40#32) := by
  set_option maxRecDepth 8000 in decide

/-- V20, the wire column. -/
theorem test_headers_on_the_wire :
    ([.dpAbortWr, .dpCtrlstatWr, .dpSelectWr, .dpDpidrRd, .dpCtrlstatRd, .hdrDpRdA2, .dpRdbufRd, .hdrApWrA0, .apTarWr,
      .hdrApWrA2, .apDrwWr, .hdrApRdA0, .hdrApRdA1, .hdrApRdA2, .apIdrDrwRd] : List Instr).map
        (fun i => seen (fun s => String.ofList (s.wire.map letter)) (exec i base)) =
      ["10000001z", "10010101z", "10001101z", "10100101z", "10110001z", "10101001z", "10111101z", "11000101z",
        "11010001z", "11001001z", "11011101z", "11100001z", "11110101z", "11101101z", "11111001z"].map some := by
  set_option maxRecDepth 8000 in decide
/-- V25. -/
theorem test_targetsel :
    seen (fun s => String.ofList (s.wire.map letter)) (exec .dpTargetselWr { base with swdData := 0x01002927#32 }) =
      some "10011001zzzzz111001001001010000000000100000000" := by
  set_option maxRecDepth 8000 in decide
theorem test_targetsel_packet :
    seen (fun s => String.ofList (s.wire.map letter)) (exec (.swdTargetselPacket 0x00000001#32) base) =
      some "10011001zzzzz100000000000000000000000000000001" := by
  set_option maxRecDepth 8000 in decide
/-- V21. -/
theorem test_acks :
    ([.ackOk, .ackWait, .ackFault, .ackDisconnected, .ack000, .ack011, .ack101, .ack110] : List Instr).map
        (fun i => seen (·.returns) (exec i base)) =
      [some [.swdAck .ok], some [.swdAck (.notOk 2#3)], some [.swdAck (.notOk 4#3)], some [.swdAck (.notOk 7#3)],
        some [.swdAck (.notOk 0#3)], some [.swdAck (.notOk 3#3)], some [.swdAck (.notOk 5#3)],
        some [.swdAck (.notOk 6#3)]] := by decide
/-- V23, second row, and its wrong-parity note: the parity bit is low where it should be high. -/
theorem test_read_packet :
    seen (fun s => (String.ofList (s.wire.map letter), s.returns))
        (exec (.swdReadPacket false 0b01#2) (answers (readAnswer ok 0xF0000001#32 true) base)) =
      some ("10110001zhllhlllllllllllllllllllllllllllhhhhhz", [.swdRead .ok 0xF0000001#32]) := by
  set_option maxRecDepth 8000 in decide
theorem test_read_packet_parity :
    seen (·.returns) (exec (.swdReadPacket false 0b00#2) (answers (readAnswer ok 0x4C013477#32 false) base)) =
      some [.swdRead .ok 0x4C013477#32] := by
  set_option maxRecDepth 8000 in decide
/-- V24, the third and the last row: the data is driven after a FAULT all the same. -/
theorem test_write_packet :
    seen (fun s => (String.ofList (s.wire.map letter), s.selectShadow))
        (exec (.swdWritePacket false 0b10#2 0x020000F0#32) (answers (writeAnswer ok) base)) =
      some ("10001101zhllz000011110000000000000000010000001", some 0x020000F0#32) := by
  set_option maxRecDepth 8000 in decide
theorem test_write_packet_fault :
    seen (fun s => (String.ofList (s.wire.map letter), s.returns))
        (exec (.swdWritePacket false 0b00#2 0x1E#32) (answers (writeAnswer 0b100#3) base)) =
      some ("10000001zllhz011110000000000000000000000000000", [.swdWrite (.notOk 4#3)]) := by
  set_option maxRecDepth 8000 in decide
/-- V22. -/
theorem test_parity :
    ([0x00000000#32, 0x00000001#32, 0xFFFFFFFF#32, 0x7FFFFFFF#32, 0x80000001#32, 0x0000001E#32, 0x50000001#32,
      0x020000F0#32] : List Word).map parity = [false, true, false, true, false, false, true, true] := by decide
/-- V27 and V28. -/
theorem test_power_up :
    ([0x80000000#32, 0x20000000#32, 0x50000001#32, 0x5FFFFFFF#32, 0xA0000000#32, 0xF0000001#32] : List Word).map
      poweredUp = [false, false, false, false, true, true] := by decide
theorem test_isMemAp :
    ([0x04770002#32, 0x74770002#32, 0x24770011#32, 0x00010003#32, 0x00012002#32, 0xFFFFFFF2#32] : List Word).map
      isMemAp = [true, true, false, false, false, false] := by decide
/-- The absent target of V26: 322 cycles, LinkFault. -/
theorem test_connect_absent_target :
    seen (fun s => (s.wire.length, s.connectCause, s.returns))
        (step (calls [.connect] (answers (List.replicate 36 true) base))) =
      some (322, some .linkFault, [.connect 1]) := by
  set_option maxRecDepth 8000 in decide
/-- V32, rows 2 and 4: no edge changes nothing; a falling edge outside the shift states gives 0. -/
theorem test_edges :
    seen (·.tapState) (step (calls [.setTck true] { inTap .sRunIdle 1#5 0#42 with tck := true, tms := true })) =
      some .sRunIdle ∧
    seen (·.tdo) (step (calls [.setTck false] { inTap .sRunIdle 1#5 1#42 with tck := true, tdo := true })) =
      some false := by decide
theorem test_destroy_refused : isRefused (step (calls [.destroy] base)) = true := by decide

/-! Witnesses: for each statement with hypotheses a state and operands that meet them together, for each clause one. -/

theorem witness_DecodeOfEncode :
    Instr.WellFormed (.swdWritePacket true 0b11#2 0xFFFFFFFF#32) ∧ Instr.WellFormed (.dmiRead 0xFF#8 0#32) := by decide

theorem witness_EncodeOfDecode : decodeHeader 0x81#8 = .ok .dpAbortWr ∧ decodeHeader 0xBD#8 = .ok .dpRdbufRd :=
  ⟨rfl, rfl⟩

theorem witness_CaptureDrByInstruction : (inTap .sCaptureDr 1#5 0#42).tapState = .sCaptureDr := rfl

theorem witness_ShiftDrByInstruction :
    isIrInstr .dmi = true ∧ isIrInstr .bypass = true ∧ isIrInstr (.undef181F 0b111#3) = true ∧
    (inTap .sShiftDr 0x11#5 1#42).tapState = .sShiftDr := by decide

theorem witness_UpdateDrByInstruction :
    (inTap .sUpdateDr 0x11#5 0x4000000007#42).tapState = .sUpdateDr ∧
    ∃ t, exec .dmi (inTap .sUpdateDr 0x11#5 0x4000000007#42) = .next t := ⟨rfl, _, rfl⟩

theorem witness_ActionsCommonToAllInstructions :
    isIrInstr .idcode = true ∧ (inTap .sReset 1#5 0#42).tapState = .sReset ∧
    (inTap .sCaptureIr 1#5 0#42).tapState = .sCaptureIr ∧ (inTap .sShiftIr 1#5 0#42).tapState = .sShiftIr ∧
    (inTap .sUpdateIr 1#5 0#42).tapState = .sUpdateIr ∧ (inTap .sExit2Ir 1#5 0#42).tapState.quiet = true := by decide

/-- Both clauses of the rising edge, and the framer at rest with TCK low. -/
theorem witness_RisingEdgeRunsInstruction :
    let s := calls [.setTck true] (inTap .sShiftDr 0x11#5 1#42)
    let u := calls [.setTck true] (inTap .sUpdateDr 0x11#5 1#42)
    s.framer = .idle ∧ s.tck = false ∧ ¬ (s.tapState = .sUpdateDr ∧ s.ir = 0x11#5) ∧
    u.framer = .idle ∧ u.tck = false ∧ u.tapState = .sUpdateDr ∧ u.ir = 0x11#5 := by decide

theorem witness_FramerStepRunsInstruction :
    (calls [.swdHeader 0xA5#8 0#32] base).framer = .idle ∧ decodeHeader 0xA5#8 = .ok .dpDpidrRd ∧
    decodePacket 0x28D#46 = .ok (.swdReadPacket false 0b01#2) ∧ { base with framer := Framer.reading }.framer ≠ .idle :=
  ⟨rfl, rfl, rfl, by decide⟩

theorem witness_SettersStoreOnly :
    (calls [.setTms true] base).framer = .idle ∧ (calls [.setTms true] base).events = [.setTms true] ∧
    (calls [.setTdi false] base).events = [.setTdi false] := ⟨rfl, rfl, rfl⟩

/-- A level that is there, low and high; a falling edge; a look at TDO. -/
theorem witness_FallingEdgeAndTdo :
    (calls [.setTck false] base).events = [.setTck base.tck] ∧
    (calls [.setTck true] { base with tck := true }).events = [.setTck { base with tck := true }.tck] ∧
    (calls [.setTck false] { base with tck := true }).tck = true ∧
    (calls [.getTdo] base).events = [.getTdo] ∧ base.framer = .idle := ⟨rfl, rfl, rfl, rfl, rfl⟩

theorem witness_TapWalksTheTable :
    ∃ t, step (calls [.setTck true] { inTap .sExit2Ir 1#5 0#42 with tms := true }) = .next t ∧
      t.tapState = .sUpdateIr := ⟨_, rfl, rfl⟩

/-- At rest, TCK low, upcalls not the environment's: the construction state and the assembled bridge. -/
theorem witness_TmsOnesReachReset :
    base.framer = .idle ∧ base.tck = false ∧ base.dmiReadBinding ≠ .environment ∧
    (bridge []).dmiWriteBinding ≠ .environment ∧ (bridge []).dmiReadBinding ≠ .environment := by decide

theorem witness_DrScanShowsCaptureThenTdi :
    (inTap .sCaptureDr 0x1F#5 0x1F#42).framer = .idle ∧ (inTap .sCaptureDr 0x1F#5 0x1F#42).tck = false ∧
    (inTap .sCaptureDr 0x1F#5 0x1F#42).tapState = .sCaptureDr := by decide

theorem witness_ShiftsMixOldAndNewBits :
    (inTap .sShiftDr 0x11#5 0x32BFAEAF8#42).framer = .idle ∧ (inTap .sShiftDr 0x11#5 0x32BFAEAF8#42).tck = false ∧
    (inTap .sShiftDr 0x11#5 0x32BFAEAF8#42).tapState = .sShiftDr ∧ 41 < drLen 0x11#5 := by decide

theorem witness_IrScanLoadsAndShowsIr :
    (inTap .sRunIdle 1#5 0#42).framer = .idle ∧ (inTap .sRunIdle 1#5 0#42).tck = false ∧
    (inTap .sRunIdle 1#5 0#42).tapState = .sRunIdle := by decide

/-- At rest in S_RUN_IDLE with DMI in `ir`, the upcall the environment's and answered. -/
theorem witness_DmiWriteScanCallsOnce :
    let s := { dmiUpdate 0#42 [.returns 0#32] with tapState := .sRunIdle }
    s.framer = .idle ∧ s.tck = false ∧ s.tapState = .sRunIdle ∧ s.ir = 0x11#5 ∧ s.dmiWriteBinding = .environment ∧
    s.upcallIn = [.returns 0#32] := by decide

theorem witness_DmiReadAppearsOneScanLater :
    let s := { dmiUpdate 0#42 [.returns 0xCAFEBABE#32] with tapState := .sRunIdle }
    s.framer = .idle ∧ s.tck = false ∧ s.tapState = .sRunIdle ∧ s.ir = 0x11#5 ∧ s.dmiReadBinding = .environment ∧
    s.upcallIn = [.returns 0xCAFEBABE#32] := by decide

theorem witness_StepKeepsJtagInv :
    JtagInv (calls [.setTck true] (inTap .sShiftIr 1#5 2#42)) ∧
    ∃ t, step (calls [.setTck true] (inTap .sShiftIr 1#5 2#42)) = .next t :=
  ⟨⟨by decide, by decide, by decide, fun _ => by decide⟩, _, rfl⟩

/-- A step; both binders at rest; and a binding that changes. -/
theorem witness_StepKeepsConfiguration :
    (∃ t, step (calls [.setTck true] base) = .next t) ∧
    (calls [.bindRead true] base).framer = .idle ∧ (calls [.bindRead true] base).events = [.bindRead true] ∧
    (calls [.bindWrite false] base).events = [.bindWrite false] ∧
    (∃ t, step (calls [.bindRead true] base) = .next t ∧ t.dmiReadBinding ≠ base.dmiReadBinding) ∧
    ∃ t, step (calls [.bindWrite false] base) = .next t ∧ t.dmiWriteBinding ≠ base.dmiWriteBinding :=
  ⟨⟨_, rfl⟩, rfl, rfl, rfl, ⟨_, rfl, by decide⟩, ⟨_, rfl, by decide⟩⟩

theorem witness_DmiRdataWrittenByReadsOnly :
    ∃ t, step (calls [.setTck true] (dmiUpdate 1#42 [.returns 5#32])) = .next t ∧
      t.dmiRdata ≠ (dmiUpdate 1#42 [.returns 5#32]).dmiRdata := ⟨_, rfl, by decide⟩

theorem witness_IrWrittenInThreePlacesOnly :
    (∃ t, step (calls [.setTck true] (inTap .sUpdateIr 1#5 2#42)) = .next t ∧ t.ir ≠ 1#5) ∧
    (∃ t, step (calls [.setTck true] (inTap .sReset 2#5 2#42)) = .next t ∧ t.ir ≠ 2#5) ∧
    (∃ t, step (calls [.setTck true] { inTap .sSelectIr 2#5 2#42 with tms := true }) = .next t ∧ t.ir ≠ 2#5) :=
  ⟨⟨_, rfl, by decide⟩, ⟨_, rfl, by decide⟩, ⟨_, rfl, by decide⟩⟩

theorem witness_TdoAndTapChangeOnTheirEdges :
    (∃ t, step (calls [.setTck false] { inTap .sShiftDr 1#5 1#42 with tck := true }) = .next t ∧ t.tdo ≠ false) ∧
    (∃ t, step (calls [.setTck true] base) = .next t ∧ t.tapState ≠ .sReset) :=
  ⟨⟨_, rfl, by decide⟩, ⟨_, rfl, by decide⟩⟩

/-- Both faults; the three refusals. -/
theorem witness_OnlyStops :
    step (calls [.setTck true] (dmiUpdate 1#42 [.hangs])) = .fault .upcallNeverReturns ∧
    step (calls [.setTck true] (dmiUpdate 2#42 [.hangs])) = .fault .upcallNeverReturns ∧
    step (calls [.destroy] base) = .refused .destroyed ∧
    step (calls [.swdHeader 0x00#8 0#32] base) = .refused (.undecodable .badStart) ∧
    step (calls [.swdPacket 0x2099#46] base) = .refused (.undecodable .badDataParity) := ⟨rfl, rfl, rfl, rfl, rfl⟩

/-- The three clauses of the read upcall. -/
theorem witness_DmiReadUpcall :
    base.dmiReadBinding = .unbound ∧
    ((dmiUpdate 1#42 [.returns 5#32]).dmiReadBinding = .environment ∧
      (dmiUpdate 1#42 [.returns 5#32]).upcallIn = [.returns 5#32]) ∧
    ((dmiUpdate 1#42 []).dmiReadBinding = .environment ∧ (dmiUpdate 1#42 []).upcallIn = []) := by decide

/-- The three clauses of the write upcall. -/
theorem witness_DmiWriteUpcall :
    base.dmiWriteBinding = .unbound ∧
    ((dmiUpdate 2#42 [.returns 0#32]).dmiWriteBinding = .environment ∧
      (dmiUpdate 2#42 [.returns 0#32]).upcallIn = [.returns 0#32]) ∧
    ((dmiUpdate 2#42 []).dmiWriteBinding = .environment ∧ (dmiUpdate 2#42 []).upcallIn = []) := by decide

theorem witness_HangingUpcallStops :
    (dmiUpdate 1#42 [.hangs]).upcallIn = [.hangs] ∧ (dmiUpdate 1#42 [.hangs]).dmiReadBinding = .environment ∧
    (dmiUpdate 1#42 [.hangs]).dmiWriteBinding = .environment := by decide

/-- A hit at DMI address 0x10, and a miss at the edge of the addresses, in the assembled bridge. -/
theorem witness_DmiReadOverSwd :
    let s := bridgeHit (readAnswer 0b001#3 7#32 true ++ readAnswer 0b001#3 9#32 false ++ [])
    let u := bridgeHit (writeAnswer 0b001#3 ++ readAnswer 0b001#3 7#32 true ++ readAnswer 0b001#3 9#32 false ++ [])
    s.dmiReadBinding = .bridge ∧ s.tarCacheValid = true ∧ s.tarCache = (0x10#8).setWidth 32 <<< 2 ∧
    s.swdioIn = readAnswer 0b001#3 7#32 true ++ readAnswer 0b001#3 9#32 false ++ [] ∧
    u.dmiReadBinding = .bridge ∧ ¬ (u.tarCacheValid = true ∧ u.tarCache = (0xFF#8).setWidth 32 <<< 2) ∧
    u.swdioIn = writeAnswer 0b001#3 ++ readAnswer 0b001#3 7#32 true ++ readAnswer 0b001#3 9#32 false ++ [] :=
  ⟨rfl, rfl, rfl, rfl, rfl, by decide, rfl⟩

/-- The same for a write; the miss is of an invalid cache that holds the address. -/
theorem witness_DmiWriteOverSwd :
    let s := bridgeHit (writeAnswer 0b001#3 ++ [])
    let u := { bridgeHit (writeAnswer 0b001#3 ++ writeAnswer 0b001#3 ++ []) with tarCacheValid := false }
    s.dmiWriteBinding = .bridge ∧ s.tarCacheValid = true ∧ s.tarCache = (0x10#8).setWidth 32 <<< 2 ∧
    s.swdioIn = writeAnswer 0b001#3 ++ [] ∧
    u.dmiWriteBinding = .bridge ∧ ¬ (u.tarCacheValid = true ∧ u.tarCache = (0x10#8).setWidth 32 <<< 2) ∧
    u.swdioIn = writeAnswer 0b001#3 ++ writeAnswer 0b001#3 ++ [] := ⟨rfl, rfl, rfl, rfl, rfl, by decide, rfl⟩

theorem witness_DmiOverSwdAlwaysCompletes :
    (bridge []).dmiReadBinding = .bridge ∧ (bridge []).dmiWriteBinding = .bridge := ⟨rfl, rfl⟩

/-- A miss, and a WAIT at each of the transactions of a read and of a write. -/
theorem witness_AccessFaultStopsTheAccess :
    let s := bridge (writeAnswer wait)
    let u := bridge (writeAnswer ok ++ readAnswer wait 0#32 false)
    let v := bridge (writeAnswer ok ++ readAnswer ok 7#32 true ++ readAnswer wait 0#32 false)
    let w := bridge (writeAnswer ok ++ writeAnswer wait)
    wait ≠ 0b001#3 ∧ ¬ (s.tarCacheValid = true ∧ s.tarCache = (0x10#8).setWidth 32 <<< 2) ∧
    s.dmiReadBinding = .bridge ∧ s.dmiWriteBinding = .bridge ∧ s.swdioIn = writeAnswer wait ++ [] ∧
    u.swdioIn = writeAnswer 0b001#3 ++ readAnswer wait 0#32 false ++ [] ∧
    v.swdioIn = writeAnswer 0b001#3 ++ readAnswer 0b001#3 7#32 true ++ readAnswer wait 0#32 false ++ [] ∧
    w.swdioIn = writeAnswer 0b001#3 ++ writeAnswer wait ++ [] := by
  set_option maxRecDepth 8000 in decide

/-- A hit, and a WAIT at each transaction that is left. -/
theorem witness_AccessFaultOnTarHit :
    let s := bridgeHit (readAnswer wait 0#32 false)
    let u := bridgeHit (readAnswer ok 7#32 true ++ readAnswer wait 0#32 false)
    let v := bridgeHit (writeAnswer wait)
    wait ≠ 0b001#3 ∧ s.tarCacheValid = true ∧ s.tarCache = (0x10#8).setWidth 32 <<< 2 ∧ s.dmiReadBinding = .bridge ∧
    s.dmiWriteBinding = .bridge ∧ s.swdioIn = readAnswer wait 0#32 false ++ [] ∧
    u.swdioIn = readAnswer 0b001#3 7#32 true ++ readAnswer wait 0#32 false ++ [] ∧
    v.swdioIn = writeAnswer wait ++ [] := by
  set_option maxRecDepth 8000 in decide

/-- A read and a write called by themselves; a hit, and a miss at the edge of the addresses. -/
theorem witness_DirectAccesses :
    let s := calls [.dmiRead 0x10#8] (bridgeHit (readAnswer 0b001#3 7#32 true ++ readAnswer 0b001#3 9#32 false ++ []))
    let u := calls [.dmiRead 0xFF#8]
      (bridgeHit (writeAnswer 0b001#3 ++ readAnswer 0b001#3 7#32 true ++ readAnswer 0b001#3 9#32 false ++ []))
    s.framer = .idle ∧ s.events = [.dmiRead 0x10#8] ∧
    (calls [.dmiWrite 0x10#8 1#32] base).events = [.dmiWrite 0x10#8 1#32] ∧
    s.tarCacheValid = true ∧ s.tarCache = (0x10#8).setWidth 32 <<< 2 ∧
    s.swdioIn = readAnswer 0b001#3 7#32 true ++ readAnswer 0b001#3 9#32 false ++ [] ∧
    u.events = [.dmiRead 0xFF#8] ∧ ¬ (u.tarCacheValid = true ∧ u.tarCache = (0xFF#8).setWidth 32 <<< 2) ∧
    u.swdioIn = writeAnswer 0b001#3 ++ readAnswer 0b001#3 7#32 true ++ readAnswer 0b001#3 9#32 false ++ [] :=
  ⟨rfl, rfl, rfl, rfl, rfl, rfl, rfl, by decide, rfl⟩

theorem witness_TarCacheLaw :
    let es := [.dmiWrite 0x10#8 1#32, .dmiWrite 0x10#8 2#32]
    let s := bridge (writeAnswer ok ++ writeAnswer ok ++ writeAnswer ok)
    (∀ e ∈ es, e.isAccess = true) ∧ s.framer = .idle ∧ s.tarCacheValid = false ∧ s.linkFault = none ∧
    ∃ t, playCalls es s = .next t ∧ t.linkFault = none :=
  ⟨by decide, rfl, rfl, rfl, _, rfl, rfl⟩

theorem witness_ReadPacketOnTheWire :
    sampledBits 36 (answers (readAnswer wait 5#32 true) base) = readAnswer wait 5#32 true := by
  set_option maxRecDepth 8000 in decide

theorem witness_WritePacketOnTheWire : sampledBits 3 (answers (writeAnswer wait) base) = writeAnswer wait := by decide

/-- The three places of the framer at an ACK. -/
theorem witness_AckEndsTheTransaction :
    sampledBits 33 { answers (lsbFirst 5#32 ++ [false]) base with framer := .reading } = lsbFirst 5#32 ++ [false] ∧
    { base with framer := Framer.reading }.framer = .reading ∧
    { base with framer := Framer.writing true 0b01#2 }.framer = .writing true 0b01#2 ∧ base.framer = .idle := by
  set_option maxRecDepth 8000 in decide

theorem witness_HeaderThenAckIsThePacket :
    (calls [.swdHeader (header true true 0b11#2) 0#32] base).framer = .idle ∧
    (calls [.swdHeader (header true true 0b11#2) 0#32] base).events = [.swdHeader (header true true 0b11#2) 0#32] ∧
    (calls [.swdHeader (header false false 0b10#2) 1#32] base).events = [.swdHeader (header false false 0b10#2) 1#32] ∧
    ¬ (false = false ∧ 0b10#2 = 0b11#2) := ⟨rfl, rfl, rfl, by decide⟩

theorem witness_ReadParityIsNotChecked :
    (∃ t, exec (.swdReadPacket false 0b00#2) { base with swdioIn := readAnswer ok 5#32 (parity 5#32) ++ [] } = .next t) ∧
    ∃ u, exec (.swdReadPacket false 0b00#2) { base with swdioIn := readAnswer ok 5#32 (! parity 5#32) ++ [] } = .next u :=
  ⟨⟨_, rfl⟩, ⟨_, rfl⟩⟩

theorem witness_PacketLayerHasNoMemory :
    base.swdioIn = { base with linkFault := some wait }.swdioIn ∧ base.draws = { base with linkFault := some wait }.draws :=
  ⟨rfl, rfl⟩

/-- The answers of a target that is OK throughout, up to the power-up poll. -/
def upToPoll (polls : List (Word × Bool)) : List Bool :=
  readAnswer 0b001#3 0x4C013477#32 true ++ writeAnswer 0b001#3 ++ writeAnswer 0b001#3 ++ writeAnswer 0b001#3
    ++ polls.flatMap (fun v => readAnswer 0b001#3 v.1 v.2)

/-- The target of P4: both acknowledge bits on the second poll; the stale IDR word has its parity bit low, the other
reads have theirs high. -/
theorem witness_ConnectSucceeds :
    let polls : List (Word × Bool) := [(0x50000001#32, true)]
    let s := answers (upToPoll polls ++ readAnswer 0b001#3 0xF0000001#32 true ++ writeAnswer 0b001#3
      ++ readAnswer 0b001#3 0#32 false ++ readAnswer 0b001#3 0x04770002#32 true ++ writeAnswer 0b001#3 ++ [])
      (calls [.connect] base)
    s.framer = .idle ∧ s.events = [.connect] ∧ polls.length < 10000 ∧
    (∀ v ∈ polls, poweredUp v.1 = false) ∧ poweredUp 0xF0000001#32 = true ∧ isMemAp 0x04770002#32 = true ∧
    s.swdioIn = readAnswer 0b001#3 0x4C013477#32 true ++ writeAnswer 0b001#3 ++ writeAnswer 0b001#3
      ++ writeAnswer 0b001#3 ++ polls.flatMap (fun v => readAnswer 0b001#3 v.1 v.2)
      ++ readAnswer 0b001#3 0xF0000001#32 true ++ writeAnswer 0b001#3 ++ readAnswer 0b001#3 0#32 false
      ++ readAnswer 0b001#3 0x04770002#32 true ++ writeAnswer 0b001#3 ++ [] :=
  ⟨rfl, rfl, by simp, fun v hv => by rw [List.mem_singleton.mp hv]; decide, by decide, by decide, rfl⟩

/-- The same at the bound (D10): 9999 polls that show one acknowledge bit only, then the 10000th. -/
theorem witness_ConnectSucceeds_at_bound :
    let polls : List (Word × Bool) := List.replicate 9999 (0x80000000#32, true)
    let s := answers (upToPoll polls ++ readAnswer 0b001#3 0xF0000001#32 true ++ writeAnswer 0b001#3
      ++ readAnswer 0b001#3 0#32 false ++ readAnswer 0b001#3 0x04770002#32 true ++ writeAnswer 0b001#3 ++ [])
      (calls [.connect] base)
    s.framer = .idle ∧ s.events = [.connect] ∧ polls.length < 10000 ∧
    (∀ v ∈ polls, poweredUp v.1 = false) ∧ poweredUp 0xF0000001#32 = true ∧ isMemAp 0x04770002#32 = true ∧
    s.swdioIn = readAnswer 0b001#3 0x4C013477#32 true ++ writeAnswer 0b001#3 ++ writeAnswer 0b001#3
      ++ writeAnswer 0b001#3 ++ polls.flatMap (fun v => readAnswer 0b001#3 v.1 v.2)
      ++ readAnswer 0b001#3 0xF0000001#32 true ++ writeAnswer 0b001#3 ++ readAnswer 0b001#3 0#32 false
      ++ readAnswer 0b001#3 0x04770002#32 true ++ writeAnswer 0b001#3 ++ [] :=
  ⟨rfl, rfl, by simp only [List.length_replicate]; decide,
    fun v hv => by rw [List.eq_of_mem_replicate hv]; decide, by decide, by decide, rfl⟩

theorem witness_ConnectResult :
    (calls [.connect] base).framer = .idle ∧ (calls [.connect] base).events = [.connect] := ⟨rfl, rfl⟩

theorem witness_ConnectDependsOnNoEarlierState :
    let t := { base with tarCacheValid := true, linkFault := some wait }
    base.targetsel = t.targetsel ∧ base.apsel = t.apsel ∧ base.swdioIn = t.swdioIn ∧ base.draws = t.draws := by decide

/-- The transactions of the target of P4 with its answers, one poll before the last. -/
def scriptP4 (idr : Word × Bool) : List Exchange :=
  connectScript 0#8 (0x4C013477#32, true) ([(0x50000001#32, true)] ++ [(0xF0000001#32, true)]) (0#32, false) idr

/-- A WAIT at the first transaction, at a poll and at the last (V26). -/
theorem witness_ConnectStopsAtFirstLinkFault :
    let polls : List (Word × Bool) := [(0x50000001#32, true)]
    let script := scriptP4 (0x04770002#32, true)
    let s := answers (readAnswer wait 0#32 false ++ [true]) (calls [.connect] base)
    let u := answers ((script.take 5).flatMap Exchange.levels ++ readAnswer wait 0#32 true ++ []) (calls [.connect] base)
    let v := answers ((script.take 9).flatMap Exchange.levels ++ writeAnswer wait ++ []) (calls [.connect] base)
    s.framer = .idle ∧ s.events = [.connect] ∧ s.apsel = 0#8 ∧ polls.length < 10000 ∧
    (∀ v ∈ polls, poweredUp v.1 = false) ∧ poweredUp 0xF0000001#32 = true ∧ isMemAp 0x04770002#32 = true ∧
    (script[0]? = some (okRead false 0b00#2 (0x4C013477#32, true)) ∧
      (readAnswer wait 0#32 false).length = (okRead false 0b00#2 (0x4C013477#32, true)).levels.length ∧
      (readAnswer wait 0#32 false).take 3 ≠ lsbFirst 0b001#3 ∧
      s.swdioIn = (script.take 0).flatMap Exchange.levels ++ readAnswer wait 0#32 false ++ [true]) ∧
    (script[5]? = some (okRead false 0b01#2 (0xF0000001#32, true)) ∧
      u.swdioIn = (script.take 5).flatMap Exchange.levels ++ readAnswer wait 0#32 true ++ []) ∧
    (script[9]? = some (okWrite false 0b10#2 0#32) ∧ (writeAnswer wait).length = (okWrite false 0b10#2 0#32).levels.length ∧
      (writeAnswer wait).take 3 ≠ lsbFirst 0b001#3 ∧
      v.swdioIn = (script.take 9).flatMap Exchange.levels ++ writeAnswer wait ++ []) :=
  ⟨rfl, rfl, rfl, by simp, fun v hv => by rw [List.mem_singleton.mp hv]; decide, by decide, by decide,
    ⟨rfl, rfl, by decide, rfl⟩, ⟨rfl, rfl⟩, ⟨rfl, rfl, by decide, rfl⟩⟩

/-- V27, the last row: one acknowledge bit only, 10000 times. -/
theorem witness_PowerUpPollTimesOut :
    let polls : List (Word × Bool) := List.replicate 10000 (0x80000000#32, true)
    let s := answers (upToPoll polls ++ [true]) (calls [.connect] base)
    s.framer = .idle ∧ s.events = [.connect] ∧ polls.length = 10000 ∧ (∀ v ∈ polls, poweredUp v.1 = false) ∧
    s.swdioIn = readAnswer 0b001#3 0x4C013477#32 true ++ writeAnswer 0b001#3 ++ writeAnswer 0b001#3
      ++ writeAnswer 0b001#3 ++ polls.flatMap (fun v => readAnswer 0b001#3 v.1 v.2) ++ [true] :=
  ⟨rfl, rfl, List.length_replicate, fun v hv => by rw [List.eq_of_mem_replicate hv]; decide, rfl⟩

/-- V28's JTAG-AP, with parity bits low and high; step 9 by itself, and the whole `connect`. -/
theorem witness_WrongApEndsIdentification :
    let polls : List (Word × Bool) := [(0x50000001#32, true)]
    let s := answers (writeAnswer 0b001#3 ++ readAnswer 0b001#3 0#32 false ++ readAnswer 0b001#3 0x24770011#32 true ++ [])
      base
    let u := answers ((scriptP4 (0x24770011#32, true)).dropLast.flatMap Exchange.levels ++ [])
      (calls [.connect] base)
    isMemAp 0x24770011#32 = false ∧
    s.swdioIn = writeAnswer 0b001#3 ++ readAnswer 0b001#3 0#32 false ++ readAnswer 0b001#3 0x24770011#32 true ++ [] ∧
    u.framer = .idle ∧ u.events = [.connect] ∧ u.apsel = 0#8 ∧ polls.length < 10000 ∧
    (∀ v ∈ polls, poweredUp v.1 = false) ∧ poweredUp 0xF0000001#32 = true ∧
    u.swdioIn = (scriptP4 (0x24770011#32, true)).dropLast.flatMap Exchange.levels ++ [] :=
  ⟨by decide, rfl, rfl, rfl, rfl, by simp, fun v hv => by rw [List.mem_singleton.mp hv]; decide, by decide, rfl⟩

theorem witness_StepKeepsTarInv :
    TarInv (calls [.connect] (bridgeHit [])) ∧ ∃ t, step (calls [.connect] (bridgeHit [])) = .next t :=
  ⟨⟨rfl, by decide, fun _ => rfl, fun _ => ⟨0x10#8, rfl⟩⟩, _, rfl⟩

/-- A rising edge that dispatches the DMI word `w` in the assembled bridge, whose cache holds 0x40; the TAR write is
answered with WAIT. -/
def dispatchMiss (w : ShiftReg) : State :=
  calls [.setTck true] { bridgeHit (writeAnswer wait) with tapState := .sUpdateDr, ir := 0x11#5, shifter := w }

/-- The ways in which a valid cache becomes invalid: `connect`, and an access whose TAR write is not OK, called by itself
or dispatched, a write or a read. -/
theorem witness_CacheInvalidatedByConnectOrFault :
    (∃ t, step (calls [.connect] (bridgeHit (List.replicate 36 true))) = .next t ∧ t.tarCacheValid = false) ∧
    (∃ t, step (calls [.dmiWrite 0x11#8 1#32] (bridgeHit (writeAnswer wait))) = .next t ∧ t.tarCacheValid = false) ∧
    (∃ t, step (calls [.dmiRead 0x11#8] (bridgeHit (writeAnswer wait))) = .next t ∧ t.tarCacheValid = false) ∧
    (∃ t, step (dispatchMiss 0x4400000001#42) = .next t ∧ t.tarCacheValid = false) ∧
    (∃ t, step (dispatchMiss 0x4400000006#42) = .next t ∧ t.tarCacheValid = false) ∧
    (bridgeHit (writeAnswer wait)).tarCacheValid = true ∧ (dispatchMiss 0x4400000001#42).tarCacheValid = true := by
  refine ⟨?_, ⟨_, rfl, rfl⟩, ⟨_, rfl, rfl⟩, ⟨_, rfl, rfl⟩, ⟨_, rfl, rfl⟩, rfl, rfl⟩
  refine ⟨connect { calls [] (bridgeHit (List.replicate 36 true)) with events := [] }, rfl, ?_⟩
  set_option maxRecDepth 8000 in decide

/-! The grain of R18: the event, then one SWCLK cycle a step. -/

/-- The calls, cycles and answers that `n` steps of the agents leave. -/
def fine (n : Nat) (s : State) : Option (String × Bool × List Return) :=
  match cycleRun n ⟨s, none⟩ with
  | .next b => some (String.ofList (b.state.wire.map letter), b.job.isSome, b.state.returns)
  | _ => none

/-- R302 on a TAR hit, as it grows: nothing yet; the DRW header's first cycle; the ACK's first; the RDBUF read's last. -/
theorem test_cycle_by_cycle :
    let s := calls [.dmiRead 0x10#8] (bridgeHit (readAnswer ok 0#32 false ++ readAnswer ok 1#32 true))
    fine 1 s = some ("", true, []) ∧ fine 2 s = some ("1", true, []) ∧ fine 11 s = some ("11111001zh", true, []) ∧
    (fine 93 s).map (fun r => (r.1.length, r.2)) = some (92, false, [.dmiRead 1#32]) := by
  set_option maxRecDepth 16000 in decide

/-- An event without SWD activity is one step. -/
theorem test_cycle_pin_event : fine 1 (calls [.getTdo] base) = some ("", false, [.tdo false]) := by decide

end Sys2Proof.Tests
end

