-- ==== Sys2Proof/Proofs/Encoding.lean ====
section
/-! PROOF. The serial order of words and bytes (R13, R68), then the header (R92) and the preamble (R95). -/

namespace Sys2Proof.Proofs.Encoding

open Sys2Proof Sys2Proof.Machine

/-! The serial order: what is sent first is the least significant part. -/

theorem lsbFirst_append {m n : Nat} (hi : BitVec m) (lo : BitVec n) :
    lsbFirst (hi ++ lo) = lsbFirst lo ++ lsbFirst hi := by
  apply List.ext_getElem
  · simp [Nat.add_comm]
  · intro i _ _
    rw [lsbFirst_getElem, BitVec.getLsbD_append, List.getElem_append]
    by_cases h : i < n <;> simp [h, lsbFirst_getElem]

theorem lsbFirst_take {n w : Nat} (v : BitVec w) (h : n ≤ w) :
    (lsbFirst v).take n = lsbFirst (v.setWidth n) := by
  apply List.ext_getElem
  · simp [h]
  · intro i hi _
    have hin : i < n := by simp at hi; omega
    simp [lsbFirst_getElem, hin]

theorem lsbFirst_allOnes (n : Nat) : lsbFirst (BitVec.allOnes n) = List.replicate n true := by
  apply List.ext_getElem
  · simp
  · intro i hi _
    have hin : i < n := by simpa using hi
    simp [lsbFirst_getElem, hin]

/-- A number shifted up by a byte, with the byte below it, is their concatenation. -/
theorem ofNat_byte_add (b : BitVec 8) (n k : Nat) :
    BitVec.ofNat (n + 8) (b.toNat + 2 ^ 8 * k) = BitVec.ofNat n k ++ b := by
  apply BitVec.eq_of_toNat_eq
  have hb : b.toNat < 2 ^ 8 := b.isLt
  rw [BitVec.toNat_append, ← Nat.shiftLeft_add_eq_or_of_lt hb, Nat.shiftLeft_eq, BitVec.toNat_ofNat,
    BitVec.toNat_ofNat, Nat.pow_add, Nat.mul_comm (2 ^ n), Nat.mod_mul,
    Nat.add_mul_mod_self_left b.toNat (2 ^ 8) k, Nat.add_mul_div_left b.toNat k (by decide : 0 < 2 ^ 8),
    Nat.mod_eq_of_lt hb, Nat.div_eq_of_lt hb,
    Nat.zero_add, Nat.add_comm, Nat.mul_comm]

/-- Bytes sent byte 0 first, bit 0 of each first, are their little-endian number sent bit 0 first. -/
theorem flatMap_lsbFirst_bytes (bytes : List (BitVec 8)) :
    bytes.flatMap lsbFirst =
      lsbFirst (BitVec.ofNat (8 * bytes.length) (Nat.ofDigits (2 ^ 8) (bytes.map BitVec.toNat))) := by
  induction bytes with
  | nil => rfl
  | cons b bytes ih =>
    calc (b :: bytes).flatMap lsbFirst
      _ = lsbFirst b ++ bytes.flatMap lsbFirst := List.flatMap_cons
      _ = lsbFirst (BitVec.ofNat (8 * bytes.length) (Nat.ofDigits (2 ^ 8) (bytes.map BitVec.toNat)) ++ b) := by
        rw [ih, lsbFirst_append]
      _ = _ := by
        rw [← ofNat_byte_add, List.map_cons, Nat.ofDigits_cons, List.length_cons, Nat.mul_succ]

/-! The header. -/

theorem headerBit_getElem (b : Bool) (place i : Nat) (h : i < 8) :
    (headerBit b place)[i] = (b && decide (i = place)) := by
  rcases Nat.lt_trichotomy i place with hlt | rfl | hgt
  · simp [headerBit, hlt, Nat.ne_of_lt hlt]
  · simp [headerBit]
  · have hne : i - place ≠ 0 := by omega
    simp [headerBit, Nat.not_lt_of_gt hgt, hne, Nat.ne_of_gt hgt]

/-- Settles O4, bit by bit: each of the six terms of `header` holds its own places. -/
theorem headerLayout : Obligations.HeaderLayout := by
  unfold Obligations.HeaderLayout
  intro apndp rnw a
  simp [lsbFirst, List.range_succ, header, headerBit_getElem, headerParity]

/-! The preamble. -/

/-- The preamble as a number sent bit 0 first. -/
def preambleWord : BitVec 280 := 0x03FFFFFFFFFFFF01A019BC0EA2E3DDAFE986852D956209F392FFE3BCFFFFFFFFFFFFFF#280

theorem preambleBytes_flatMap_lsbFirst : preambleBytes.flatMap lsbFirst = lsbFirst preambleWord := by
  rw [flatMap_lsbFirst_bytes]
  rfl

theorem preambleBits_eq_take : preambleBits = (lsbFirst preambleWord).take 276 := by
  rw [preambleBits, preambleBytes_flatMap_lsbFirst, preambleLength]

/-- The nine parts of R95's table, the last one sent on the left. -/
theorem preambleWord_setWidth :
    preambleWord.setWidth 276 =
      0x0#2 ++ (BitVec.allOnes 50 ++ (0x0#4 ++ (0x1A#8 ++ (0x0#4 ++
        (0x19BC0EA2E3DDAFE986852D956209F392#128 ++ (0xFF#8 ++ (0xE3BC#16 ++ BitVec.allOnes 56))))))) := by
  simp [preambleWord]

/-- Settles O50: the bytes are one number, and the number is the concatenation of the parts. -/
theorem preambleParts : Obligations.PreambleParts := by
  unfold Obligations.PreambleParts
  refine ⟨preambleBits_length, preambleBits_eq_take, ?_⟩
  rw [preambleBits_eq_take, lsbFirst_take _ (by decide), preambleWord_setWidth]
  simp only [lsbFirst_append, lsbFirst_allOnes]

end Sys2Proof.Proofs.Encoding
end

section
/-! PROOF. The calls on the TAP's pins that run no instruction: the setters (R130, R131), TCK without a rising edge
(R132, R134) and `get_tdo` (R133). -/

namespace Sys2Proof.Proofs.TapEdges

open Sys2Proof Sys2Proof.Machine

/-- A call that is wholly described by the state it leaves is one step to that state. -/
theorem step_of_callWork_done {s t : State} {e : Event} {rest : List Event} (hf : s.framer = .idle)
    (he : s.events = e :: rest) (hw : callWork e { s with events := rest } = .done t) : step s = .next t := by
  simp only [step, nextWork_of_events hf he, hw]

/-! The edge detector (R132), away from a rising edge. -/

theorem setTck_same (s : State) : setTck s.tck s = .done s := by
  cases h : s.tck <;> simp [setTck, h]

theorem setTck_falling {s : State} (hc : s.tck = true) : setTck false s = .done (fallingEdge s) := by
  simp [setTck, hc]

/-- Settles O15: each setter's call leaves the state with that one level stored. -/
theorem settersStoreOnly : Obligations.SettersStoreOnly := by
  unfold Obligations.SettersStoreOnly
  intro s v rest hf
  exact ⟨fun he => step_of_callWork_done hf he rfl, fun he => step_of_callWork_done hf he rfl⟩

/-- Settles O16, from the edge detector's two cases without a rising edge and the law of `get_tdo`. -/
theorem fallingEdgeAndTdo : Obligations.FallingEdgeAndTdo := by
  unfold Obligations.FallingEdgeAndTdo
  intro s rest hf
  refine ⟨fun he => ?same, fun he hc => ?falling, fun he => step_getTdo hf he⟩
  case same => exact step_of_callWork_done hf he (setTck_same { s with events := rest })
  case falling => exact step_of_callWork_done hf he (setTck_falling (s := { s with events := rest }) hc)

end Sys2Proof.Proofs.TapEdges
end

section
/-! PROOF. The data register by instruction: its length (R160), CAPTURE-DR (R165 to R170) and UPDATE-DR (R172, R173,
R200). -/

namespace Sys2Proof.Proofs.DrShifters

open Sys2Proof Sys2Proof.Machine

/-- Settles O10: IDCODE and DTMCS share their length, so the model's two tests are one. -/
theorem drLengthOfEveryCode : Obligations.DrLengthOfEveryCode := by
  unfold Obligations.DrLengthOfEveryCode
  intro ir
  rw [ite_or]
  rfl

/-! The action of a rising edge, in the two states. -/

theorem tapAction_captureDr {s : State} (h : s.tapState = .sCaptureDr) (capture : State → State) (len : Nat)
    (update : State → Result) : tapAction capture len update s = .next (capture s) := by
  simp [tapAction, h]

theorem tapAction_updateDr {s : State} (h : s.tapState = .sUpdateDr) (capture : State → State) (len : Nat)
    (update : State → Result) : tapAction capture len update s = update s := by
  simp [tapAction, h]

/-- Settles O8: each instruction's capture is the first argument of its action, and an undefined one's is `id`. -/
theorem captureDrByInstruction : Obligations.CaptureDrByInstruction := by
  unfold Obligations.CaptureDrByInstruction
  intro s h
  have undefined (code : IrCode) : undefinedAction code s = .next s := tapAction_captureDr h _ _ _
  exact ⟨tapAction_captureDr h _ _ _, tapAction_captureDr h _ _ _, tapAction_captureDr h _ _ _,
    tapAction_captureDr h _ _ _, fun _ => undefined _, fun _ => undefined _, fun _ => undefined _,
    fun _ => undefined _, fun _ => undefined _, fun _ => undefined _⟩

/-! The DMI dispatch of UPDATE-DR (R200): the operation that the shifter decodes to, and the shifter after it. -/

/-- Op 0, which the dispatch leaves to its last branch, does what the decoded no-operation does; the other three
operations are tested for alike on both sides. -/
theorem dmiDispatch_eq_exec (s : State) : dmiDispatch s = exec (decodeDmi s.shifter) s := by
  unfold dmiDispatch decodeDmi
  by_cases nop : dmiOp s.shifter = 0#2
  · simp [nop, exec, execDmiNop]
  · rw [if_neg nop]
    split_ifs <;> rfl

theorem callDmiRead_shifter {addr : DmiAddr} {s t : State} (h : callDmiRead addr s = .next t) :
    t.shifter = s.shifter := by
  obtain ⟨-, rfl⟩ | ⟨-, rfl⟩ | ⟨-, rest, n, v, rfl⟩ := callDmiRead_cases h
  · rfl
  · exact (sameBeyondWire_dmiReadAccess addr (logUpcall (.read addr) s)).shifter
  · rfl

theorem callDmiWrite_shifter {addr : DmiAddr} {data : Word} {s t : State}
    (h : callDmiWrite addr data s = .next t) : t.shifter = s.shifter := by
  obtain ⟨-, rfl⟩ | ⟨-, rfl⟩ | ⟨-, rest, rfl⟩ := callDmiWrite_cases h
  · rfl
  · exact (sameBeyondWire_dmiWriteAccess addr data (logUpcall (.write addr data) s)).shifter
  · rfl

theorem dmiDispatch_shifter {s t : State} (h : dmiDispatch s = .next t) : t.shifter = s.shifter := by
  unfold dmiDispatch at h
  split_ifs at h with read write
  · exact callDmiRead_shifter h
  · exact callDmiWrite_shifter h
  · cases h; rfl

/-- Settles O11: nine instructions' update is `.next`, and DMI's is the dispatch. -/
theorem updateDrByInstruction : Obligations.UpdateDrByInstruction := by
  unfold Obligations.UpdateDrByInstruction
  intro s h
  have undefined (code : IrCode) : undefinedAction code s = .next s := tapAction_updateDr h _ _ _
  have dispatch : exec .dmi s = dmiDispatch s := tapAction_updateDr h _ _ _
  exact ⟨tapAction_updateDr h _ _ _, tapAction_updateDr h _ _ _, tapAction_updateDr h _ _ _,
    fun _ => undefined _, fun _ => undefined _, fun _ => undefined _,
    fun _ => undefined _, fun _ => undefined _, fun _ => undefined _,
    dispatch.trans (dmiDispatch_eq_exec s), fun _ ht => dmiDispatch_shifter (dispatch.symm.trans ht)⟩

end Sys2Proof.Proofs.DrShifters
end

section
/-! PROOF. The two DMI operations that make no upcall: op 0 (R201) and op 3 (R204). -/

namespace Sys2Proof.Proofs.DmiOps

open Sys2Proof Sys2Proof.Machine

@[simp] theorem exec_dmiNop (addr : DmiAddr) (data : Word) (s : State) :
    exec (.dmiNop addr data) s = .next s := rfl

@[simp] theorem exec_dmiReserved (addr : DmiAddr) (data : Word) (s : State) :
    exec (.dmiReserved addr data) s = .next s := rfl

/-- Settles O31: both operations leave the whole state, `upcalls` and `dmiRdata` included, as it is. -/
theorem dmiIgnoredOps : Obligations.DmiIgnoredOps := by
  unfold Obligations.DmiIgnoredOps
  intro s addr data
  exact ⟨exec_dmiNop addr data s, exec_dmiReserved addr data s⟩

end Sys2Proof.Proofs.DmiOps
end

section
/-! PROOF. The packet layer: what a transaction samples, returns and puts on the wire (R230, R231, R233), and TARGETSEL
(R232). -/

namespace Sys2Proof.Proofs.Packets

open Sys2Proof Sys2Proof.Machine

/-! What a transaction hands back and leaves on the wire, in terms of the levels that it samples. -/

theorem swdRead_ack (p : Bool) (a : RegAddr) (s : State) : (swdRead p a s).ack = ackOf (sampledBits 36 s) := by
  rw [swdRead_eq]

theorem swdRead_data (p : Bool) (a : RegAddr) (s : State) : (swdRead p a s).data = dataOf (sampledBits 36 s) := by
  rw [swdRead_eq]

theorem swdRead_wire (p : Bool) (a : RegAddr) (s : State) :
    (swdRead p a s).state.wire = s.wire ++ readTrace p a (sampledBits 36 s) := by
  rw [swdRead_eq, afterRead]

theorem swdWrite_ack (p : Bool) (a : RegAddr) (d : Word) (s : State) :
    (swdWrite p a d s).ack = packLsb 3 (sampledBits 3 s) := by
  rw [swdWrite_eq]

/-- What is noted of SELECT and TAR makes no cycle. -/
theorem swdWrite_wire (p : Bool) (a : RegAddr) (d : Word) (s : State) :
    (swdWrite p a d s).state.wire = s.wire ++ writeTrace p a d (sampledBits 3 s) := by
  rw [swdWrite_eq, noteWrite_wire, afterWrite]

/-- Settles O49: state reaches a transaction's results and cycles through its sampled levels alone, and those are the
same in both states. -/
theorem packetLayerHasNoMemory : Obligations.PacketLayerHasNoMemory := by
  unfold Obligations.PacketLayerHasNoMemory
  intro s t apndp a data hin hdraws
  have hlevels (n : Nat) : sampledBits n s = sampledBits n t := sampledBits_congr hin hdraws
  refine ⟨?readAck, ?readData, ?writeAck, ⟨readTrace apndp a (sampledBits 36 t), ?_, swdRead_wire apndp a t⟩,
    ⟨writeTrace apndp a data (sampledBits 3 t), ?_, swdWrite_wire apndp a data t⟩⟩
  case readAck => rw [swdRead_ack, swdRead_ack, hlevels]
  case readData => rw [swdRead_data, swdRead_data, hlevels]
  case writeAck => rw [swdWrite_ack, swdWrite_ack, hlevels]
  · rw [swdRead_wire, hlevels]
  · rw [swdWrite_wire, hlevels]

/-! TARGETSEL (R232): the packet takes its data from its operand, the header by itself from `swdData`. -/

theorem exec_swdTargetselPacket (data : Word) (s : State) :
    exec (.swdTargetselPacket data) s = .next (swdTargetsel data s) := rfl

theorem exec_dpTargetselWr (s : State) : exec .dpTargetselWr s = .next (swdTargetsel s.swdData s) := rfl

/-- Settles O43: both instructions are the one transaction, whose cycles are `targetselTrace`. -/
theorem targetselOnTheWire : Obligations.TargetselOnTheWire := by
  unfold Obligations.TargetselOnTheWire
  intro s data
  rw [exec_swdTargetselPacket, exec_dpTargetselWr, swdTargetsel_eq, swdTargetsel_eq]
  simp only [afterTargetsel, targetselTrace, dataTrace, List.append_assoc, and_self]

end Sys2Proof.Proofs.Packets
end

section
/-! PROOF. The decoder and the encoder agree, in both directions (R90 to R94, R100 to R102); the data parity bit (R99). -/

namespace Sys2Proof.Proofs.DecodeEncode

open Sys2Proof Sys2Proof.Machine

/-! The decoder on the DMI words and the packets. -/

theorem decode_dmiDr (v : ShiftReg) : decode .dmiDr (v.setWidth 46) = .ok (decodeDmi v) := by
  have fits : (v.setWidth 46).toNat < 2 ^ Format.dmiDr.width := Laws.EncodeFits.setWidth_lt v
  unfold decode
  rw [if_neg (Nat.not_le_of_lt fits)]
  simp

theorem decode_packet (w : PacketWord) : decode .packet w = decodePacket w := by
  have fits : w.toNat < 2 ^ Format.packet.width := w.isLt
  unfold decode
  rw [if_neg (Nat.not_le_of_lt fits)]

/-! The fields of a DMI word (R97). -/

theorem dmiWord_getLsbD (addr : DmiAddr) (data : Word) (op : BitVec 2) (i : Nat) :
    (dmiWord addr data op).getLsbD i =
      if i < 2 then op.getLsbD i else if i < 34 then data.getLsbD (i - 2) else addr.getLsbD (i - 34) := by
  have above_op : 2 ≤ i → op.getLsbD i = false := BitVec.getLsbD_of_ge op i
  have above_data : 34 ≤ i → data.getLsbD (i - 2) = false := fun h => BitVec.getLsbD_of_ge data _ (by omega)
  have above_addr : 42 ≤ i → addr.getLsbD (i - 34) = false := fun h => BitVec.getLsbD_of_ge addr _ (by omega)
  unfold dmiWord
  grind

@[simp] theorem dmiOp_dmiWord (addr : DmiAddr) (data : Word) (op : BitVec 2) : dmiOp (dmiWord addr data op) = op := by
  apply BitVec.eq_of_getLsbD_eq
  intro i hi
  simp [dmiOp, dmiWord_getLsbD, hi]

@[simp] theorem dmiData_dmiWord (addr : DmiAddr) (data : Word) (op : BitVec 2) :
    dmiData (dmiWord addr data op) = data := by
  apply BitVec.eq_of_getLsbD_eq
  intro i hi
  have low : ¬ 2 + i < 2 := by omega
  have high : 2 + i < 34 := by omega
  simp only [dmiData, BitVec.getLsbD_extractLsb', dmiWord_getLsbD, hi, low, high, if_true, if_false]
  simp

@[simp] theorem dmiAddr_dmiWord (addr : DmiAddr) (data : Word) (op : BitVec 2) :
    dmiAddr (dmiWord addr data op) = addr := by
  apply BitVec.eq_of_getLsbD_eq
  intro i hi
  have h : ¬ 34 + i < 2 := by omega
  simp [dmiAddr, dmiWord_getLsbD, hi, h]

theorem dmiWord_fields (v : ShiftReg) : dmiWord (dmiAddr v) (dmiData v) (dmiOp v) = v := by
  apply BitVec.eq_of_getLsbD_eq
  intro i hi
  rw [dmiWord_getLsbD]
  split_ifs with op data
  · simp [dmiOp, op]
  · simp [dmiData, show i - 2 < 32 by omega, show 2 + (i - 2) = i by omega]
  · simp [dmiAddr, show i - 34 < 8 by omega, show 34 + (i - 34) = i by omega]

theorem eq_three_of_ne (op : BitVec 2) (h0 : op ≠ 0#2) (h1 : op ≠ 1#2) (h2 : op ≠ 2#2) : op = 3#2 := by
  revert op; decide

/-- The DMI operation is the low two bits of the word, whatever the other fields are. -/
theorem encode_decodeDmi (v : ShiftReg) : encode (decodeDmi v) = (.dmiDr, v.setWidth 46) := by
  have word {op : BitVec 2} (h : dmiOp v = op) : dmiWord (dmiAddr v) (dmiData v) op = v := h ▸ dmiWord_fields v
  unfold decodeDmi
  split_ifs with h0 h1 h2
  · rw [encode, word h0]
  · rw [encode, word h1]
  · rw [encode, word h2]
  · rw [encode, word (eq_three_of_ne _ h0 h1 h2)]

/-! The header byte (R92). -/

theorem headerError_header (p r : Bool) (a : RegAddr) : headerError (header p r a) = none := by
  revert a; cases p <;> cases r <;> decide

/-- An accepted header byte is the header of its three fields: the other five bits are constant or their parity. -/
theorem eq_header_of_headerError {h : HeaderByte} (ok : headerError h = none) :
    h = header (h.getLsbD 1) (h.getLsbD 2) (h.extractLsb' 3 2) := by
  unfold headerError at ok
  split_ifs at ok with start stop park par
  rw [ne_eq, not_not] at par
  apply BitVec.eq_of_getLsbD_eq
  intro i hi
  interval_cases i <;> simp_all [header, Encoding.headerBit_getElem]

theorem header_apndp (p r : Bool) (a : RegAddr) : (header p r a).getLsbD 1 = p := by
  revert a; cases p <;> cases r <;> decide

theorem header_rnw (p r : Bool) (a : RegAddr) : (header p r a).getLsbD 2 = r := by
  revert a; cases p <;> cases r <;> decide

theorem header_addr (p r : Bool) (a : RegAddr) : (header p r a).extractLsb' 3 2 = a := by
  revert a; cases p <;> cases r <;> decide

theorem decodeHeader_header (p r : Bool) (a : RegAddr) : decodeHeader (header p r a) = .ok (headerRow p r a) := by
  rw [decodeHeader, headerError_header, header_apndp, header_rnw, header_addr]

theorem encode_headerRow (p r : Bool) (a : RegAddr) :
    encode (headerRow p r a) = (.header, (header p r a).setWidth 46) := by
  revert a; cases p <;> cases r <;> decide

theorem encode_of_decodeHeader {h : HeaderByte} {i : Instr} (hi : decodeHeader h = .ok i) :
    encode i = (.header, h.setWidth 46) := by
  unfold decodeHeader at hi
  split at hi
  · cases hi
  · next ok =>
    cases hi
    rw [encode_headerRow, ← eq_header_of_headerError ok]

/-- Settles O3: `ir` values and ACKs are few, a DMI value is made of its three fields, and an accepted header byte of
its own three. -/
theorem encodeOfDecode : Obligations.EncodeOfDecode := by
  unfold Obligations.EncodeOfDecode
  exact ⟨by decide, encode_decodeDmi, by decide, fun _ _ => encode_of_decodeHeader⟩

/-! A driven packet (R94): its header in cycles 0 to 7, its data in cycles 13 to 44, their parity in cycle 45. -/

/-- The 46 bits of a packet with a driven data phase. -/
def drivenPacket (h : HeaderByte) (data : Word) : PacketWord := h.setWidth 46 ||| packetData data

theorem drivenPacket_getLsbD (h : HeaderByte) (data : Word) (i : Nat) :
    (drivenPacket h data).getLsbD i =
      if i < 13 then h.getLsbD i else if i < 45 then data.getLsbD (i - 13) else (i == 45 && parity data) := by
  have above_h : 8 ≤ i → h.getLsbD i = false := BitVec.getLsbD_of_ge h i
  have above_data : 45 ≤ i → data.getLsbD (i - 13) = false := fun h => BitVec.getLsbD_of_ge data _ (by omega)
  unfold drivenPacket packetData
  grind

theorem drivenPacket_header (h : HeaderByte) (data : Word) : (drivenPacket h data).extractLsb' 0 8 = h := by
  apply BitVec.eq_of_getLsbD_eq
  intro i hi
  have h13 : i < 13 := by omega
  simp [drivenPacket_getLsbD, hi, h13]

theorem drivenPacket_data (h : HeaderByte) (data : Word) : (drivenPacket h data).extractLsb' 13 32 = data := by
  apply BitVec.eq_of_getLsbD_eq
  intro i hi
  have h45 : 13 + i < 45 := by omega
  simp [drivenPacket_getLsbD, hi, h45]

theorem drivenPacket_addr (h : HeaderByte) (data : Word) :
    (drivenPacket h data).extractLsb' 3 2 = h.extractLsb' 3 2 := by
  apply BitVec.eq_of_getLsbD_eq
  intro i hi
  have h13 : 3 + i < 13 := by omega
  simp [drivenPacket_getLsbD, hi, h13]

/-- What the decoder makes of a driven packet: TARGETSEL at its own address, a write packet at any other. -/
theorem decodePacket_drivenPacket (p : Bool) (a : RegAddr) (data : Word) :
    decodePacket (drivenPacket (header p false a) data) =
      .ok (if p = false ∧ a = 0b11#2 then .swdTargetselPacket data else .swdWritePacket p a data) := by
  unfold decodePacket
  simp only [drivenPacket_header, drivenPacket_data, drivenPacket_addr, headerError_header, drivenPacket_getLsbD,
    header_apndp, header_rnw, header_addr, reduceIte, reduceCtorEq, Nat.reduceLT, BEq.rfl, Bool.true_and, ne_eq,
    not_true_eq_false]
  split_ifs <;> rfl

theorem decodePacket_read (p : Bool) (a : RegAddr) :
    decodePacket ((header p true a).setWidth 46) = .ok (.swdReadPacket p a) := by
  revert a; cases p <;> decide

/-- Settles O2, constructor by constructor: codes, headers and ACKs word by word, DMI words and packets by their
fields. -/
theorem decodeOfEncode : Obligations.DecodeOfEncode := by
  unfold Obligations.DecodeOfEncode
  intro i wf
  cases i with
  | undef0203 low => revert low; decide
  | undef0407 low => revert low; decide
  | undef080F low => revert low; decide
  | undef1213 low => revert low; decide
  | undef1417 low => revert low; decide
  | undef181F low => revert low; decide
  | dmiNop addr data => rw [encode, decode_dmiDr]; simp [decodeDmi]
  | dmiRead addr data => rw [encode, decode_dmiDr]; simp [decodeDmi]
  | dmiWrite addr data => rw [encode, decode_dmiDr]; simp [decodeDmi]
  | dmiReserved addr data => rw [encode, decode_dmiDr]; simp [decodeDmi]
  | swdReadPacket p a => rw [encode, decode_packet, decodePacket_read]
  | swdWritePacket p a data =>
    have other : ¬ (p = false ∧ a = 0b11#2) := by
      rintro ⟨rfl, rfl⟩
      cases wf
    exact (decode_packet _).trans ((decodePacket_drivenPacket p a data).trans (by rw [if_neg other]))
  | swdTargetselPacket data =>
    exact (decode_packet _).trans (decodePacket_drivenPacket false 0b11#2 data)
  | _ => decide

/-- Settles O1, word by word. -/
theorem tableWordsDecode : Obligations.TableWordsDecode := by
  unfold Obligations.TableWordsDecode
  exact ⟨rfl, rfl, rfl, rfl, rfl, rfl, rfl⟩

/-! The data parity bit (R99). -/

/-- The running exclusive or of a list says whether the count of its ones is odd. -/
theorem foldl_xor_eq_count (bits : List Bool) (p : Bool) :
    bits.foldl (· ^^ ·) p = (p ^^ decide (bits.count true % 2 = 1)) := by
  induction bits generalizing p with
  | nil => simp
  | cons b bits ih =>
    rw [List.foldl_cons, ih]
    cases b
    · simp
    · have flip : decide ((bits.count true + 1) % 2 = 1) = ! decide (bits.count true % 2 = 1) := by
        rw [← decide_not]; congr 1; apply propext; omega
      simp [flip]

theorem parity_eq_count {w : Nat} (v : BitVec w) : parity v = decide ((lsbFirst v).count true % 2 = 1) := by
  rw [← Bool.false_xor (decide _), ← foldl_xor_eq_count, lsbFirst, List.foldl_map, parity]

/-- Settles O5: the parity bit is a one exactly where the word's ones are odd in number. -/
theorem dataParityIsEven : Obligations.DataParityIsEven := by
  unfold Obligations.DataParityIsEven
  intro v
  rw [List.count_append, parity_eq_count]
  by_cases odd : (lsbFirst v).count true % 2 = 1
  · simp [odd]; omega
  · simp [odd]; omega

end Sys2Proof.Proofs.DecodeEncode
end

section
/-! PROOF. What a rising edge does under each JTAG instruction (R160 to R174), and, said once, the action of every
edge that dispatches no DMI operation. -/

namespace Sys2Proof.Proofs.TapActions

open Sys2Proof Sys2Proof.Machine

/-! Each JTAG instruction's action is `tapAction` at the length of its data register. -/

/-- The code that the model gives an undefined instruction is the code that encodes it. -/
theorem exec_of_undefined {i : Instr} (jtag : isIrInstr i = true) (undef : definedIr (irCode i) = false) (s : State) :
    exec i s = undefinedAction (irCode i) s := by
  have same_code {j : Instr} {code : IrCode} (h : code = irCode j) :
      undefinedAction code s = undefinedAction (irCode j) s := congrArg (undefinedAction · s) h
  cases i with
  | undef0203 low => exact same_code (by revert low; decide)
  | undef0407 low => exact same_code (by revert low; decide)
  | undef080F low => exact same_code (by revert low; decide)
  | undef1213 low => exact same_code (by revert low; decide)
  | undef1417 low => exact same_code (by revert low; decide)
  | undef181F low => exact same_code (by revert low; decide)
  | bypass | idcode | dtmcs | dmi => cases undef
  | _ => cases jtag

theorem exec_eq_tapAction {i : Instr} (jtag : isIrInstr i = true) (s : State) :
    ∃ capture update, exec i s = tapAction capture (drLen (irCode i)) update s := by
  cases i with
  | bypass | idcode | dtmcs | dmi => exact ⟨_, _, rfl⟩
  | undef0203 low | undef0407 low | undef080F low | undef1213 low | undef1417 low | undef181F low =>
    exact ⟨_, _, exec_of_undefined jtag (by clear jtag; revert low; decide) s⟩
  | _ => cases jtag

/-- Settles O12: the action is read off `tapAction`, whose arms for these states mention no argument of the
instruction's. -/
theorem actionsCommonToAllInstructions : Obligations.ActionsCommonToAllInstructions := by
  unfold Obligations.ActionsCommonToAllInstructions
  intro i s jtag
  obtain ⟨capture, update, action⟩ := exec_eq_tapAction jtag s
  rw [action]
  refine ⟨fun h => ?_, fun h => ?_, fun h => ?_, fun h => ?_, fun quiet => ?_⟩
  · simp [tapAction, h, resetIr, irIdcode]
  · simp [tapAction, h, captureIr, captureIrCode]
  · simp [tapAction, h, shiftIr, bitAtZero, wIr]
  · simp [tapAction, h, updateIr]
  · unfold tapAction
    cases h : s.tapState <;> rw [h] at quiet <;> first | rfl | cases quiet

/-! The masked shift (R171). -/

theorem drLen_cases (ir : IrCode) : drLen ir = 1 ∨ drLen ir = 32 ∨ drLen ir = 42 := by
  revert ir; decide

theorem shiftMask_drLen (ir : IrCode) : shiftMask (drLen ir) = (BitVec.allOnes (drLen ir)).setWidth 42 := by
  revert ir; decide

theorem shiftDr_getLsbD (ir : IrCode) (s : State) (k : Nat) :
    (shiftDr (drLen ir) s).shifter.getLsbD k =
      if k + 1 < drLen ir then s.shifter.getLsbD (k + 1) else if k + 1 = drLen ir then s.tdi else false := by
  have pos_le : 0 < drLen ir ∧ drLen ir ≤ 42 := by rcases drLen_cases ir with h | h | h <;> rw [h] <;> decide
  obtain ⟨pos, le⟩ := pos_le
  have above : 42 ≤ k + 1 → s.shifter.getLsbD (k + 1) = false := BitVec.getLsbD_of_ge _ _
  rw [shiftDr_shifter, shiftMask_drLen]
  simp only [bitAtZero]
  grind

/-- Settles O9: the one new shifter is the masked shift, whatever the instruction. -/
theorem shiftDrByInstruction : Obligations.ShiftDrByInstruction := by
  unfold Obligations.ShiftDrByInstruction
  intro i s jtag h
  obtain ⟨capture, update, action⟩ := exec_eq_tapAction jtag s
  refine ⟨(shiftDr (drLen (irCode i)) s).shifter, ?_, fun k => shiftDr_getLsbD _ s k⟩
  rw [action]
  simp [tapAction, h, shiftDr]

/-! The action of an edge that dispatches nothing, as a function of the state alone. -/

/-- The instruction register after the action of a rising edge that dispatches nothing. -/
def tapIr (s : State) : IrCode :=
  match s.tapState with
  | .sReset => irIdcode
  | .sUpdateIr => s.shifter.setWidth 5
  | _ => s.ir

/-- The shifter after it. -/
def tapShifter (s : State) : ShiftReg :=
  match s.tapState with
  | .sCaptureIr => captureIrCode s.ir
  | .sShiftIr => (shiftIr s).shifter
  | .sCaptureDr => captureValue s
  | .sShiftDr => (shiftDr (drLen s.ir) s).shifter
  | _ => s.shifter

/-- What a rising edge does before it moves the TAP, where no DMI operation is dispatched. -/
def tapNext (s : State) : State := { s with ir := tapIr s, shifter := tapShifter s }

theorem tapIr_tapShifter_of_tapState {s : State} (h : s.tapState.quiet = true ∨ s.tapState = .sUpdateDr) :
    tapIr s = s.ir ∧ tapShifter s = s.shifter := by
  unfold tapIr tapShifter
  cases tap : s.tapState <;> simp_all [TapState.quiet]

theorem isIrInstr_decodeIr (ir : IrCode) : isIrInstr (decodeIr ir) = true := by
  rw [isIrInstr, DecodeEncode.encodeOfDecode.1]; rfl

theorem irCode_decodeIr (ir : IrCode) : irCode (decodeIr ir) = ir := by
  rw [irCode, DecodeEncode.encodeOfDecode.1]; simp

theorem tapAction_eq_tapNext {s : State} {capture : State → State} {update : State → Result}
    (hcapture : capture s = loadShifter (captureValue s) s)
    (hupdate : s.tapState = .sUpdateDr → update s = .next s) :
    tapAction capture (drLen s.ir) update s = .next (tapNext s) := by
  unfold tapAction tapNext tapIr tapShifter
  cases h : s.tapState with
  | sCaptureDr => simp [← h, hcapture, loadShifter]
  | sUpdateDr => simp [← h, hupdate h]
  | _ => simp [← h, resetIr, captureIr, shiftIr, updateIr, shiftDr]

theorem irCode_cases (ir : IrCode) :
    ir = irBypass ∨ ir = irIdcode ∨ ir = irDtmcs ∨ ir = irDmi ∨ definedIr ir = false := by
  revert ir; decide

/-- Where nothing is dispatched, the action is that of `tapNext`: the four defined instructions differ in their capture
alone, and an undefined one captures nothing. -/
theorem exec_decodeIr {s : State} (quiet : ¬ (s.tapState = .sUpdateDr ∧ s.ir = irDmi)) :
    exec (decodeIr s.ir) s = .next (tapNext s) := by
  have run {code : IrCode} {capture : State → State} {update : State → Result} (hir : s.ir = code)
      (action : exec (decodeIr code) s = tapAction capture (drLen code) update s)
      (hcapture : capture s = loadShifter (captureValue s) s)
      (hupdate : s.tapState = .sUpdateDr → update s = .next s) : exec (decodeIr s.ir) s = .next (tapNext s) := by
    subst hir
    exact action.trans (tapAction_eq_tapNext hcapture hupdate)
  have idle : s.tapState = .sUpdateDr → (Host.Outcome.next s : Result) = .next s := fun _ => rfl
  rcases irCode_cases s.ir with h | h | h | h | undef
  · exact run h rfl (by simp [captureValue, h, irBypass]) idle
  · exact run h rfl (by simp [captureValue, h, irBypass, irIdcode]) idle
  · exact run h rfl (by simp [captureValue, h, irBypass, irIdcode, irDtmcs]) idle
  · exact run h rfl (by simp [captureValue, h, irBypass, irIdcode, irDtmcs, irDmi]) fun up => absurd ⟨up, h⟩ quiet
  · have action : exec (decodeIr s.ir) s = undefinedAction s.ir s := by
      have code := irCode_decodeIr s.ir
      rw [exec_of_undefined (isIrInstr_decodeIr s.ir) (by rwa [code]), code]
    refine run rfl action ?_ idle
    simp only [definedIr, Bool.or_eq_false_iff, beq_eq_false_iff_ne] at undef
    obtain ⟨⟨⟨bypass, idcode⟩, dtmcs⟩, dmi⟩ := undef
    simp [captureValue, loadShifter, bypass, idcode, dtmcs, dmi]

end Sys2Proof.Proofs.TapActions
end

section
/-! PROOF. What one step can do: every way to a next state, said once, and every stop (R144, R176, R320). -/

namespace Sys2Proof.Proofs.Steps

open Sys2Proof Sys2Proof.Machine

/-! What the framer's instructions do. -/

theorem exec_decodeAck (k : Ack) (s : State) : exec (decodeAck k) s = .next (receiveAck k s) := by
  have table : ∀ k : Ack, (decodeAck k, k) ∈ ([(.ackOk, 0b001#3), (.ackWait, 0b010#3), (.ackFault, 0b100#3),
      (.ackDisconnected, 0b111#3), (.ack000, 0b000#3), (.ack011, 0b011#3), (.ack101, 0b101#3),
      (.ack110, 0b110#3)] : List (Instr × Ack)) := by decide
  have row := table k
  simp only [List.mem_cons, Prod.mk.injEq, List.not_mem_nil, or_false] at row
  rcases row with ⟨h, rfl⟩ | ⟨h, rfl⟩ | ⟨h, rfl⟩ | ⟨h, rfl⟩ | ⟨h, rfl⟩ | ⟨h, rfl⟩ | ⟨h, rfl⟩ | ⟨h, rfl⟩ <;>
    rw [h] <;> rfl

/-- With an ACK due, the step samples it and ends the transaction. -/
theorem step_ack {s : State} (due : s.framer ≠ .idle) : step s = .next (receiveAck (ackPhase s).1 (ackPhase s).2) := by
  simp only [step, nextWork_of_framer due, exec_decodeAck]

theorem regAddr_cases (a : RegAddr) : a = 0b00#2 ∨ a = 0b01#2 ∨ a = 0b10#2 ∨ a = 0b11#2 := by
  revert a; decide

/-- Every header but TARGETSEL's sends its byte and leaves the ACK due; TARGETSEL's is the whole transaction (R232). -/
theorem exec_headerRow (p r : Bool) (a : RegAddr) (s : State) :
    exec (headerRow p r a) s =
      .next (if p = false ∧ r = false ∧ a = 0b11#2 then swdTargetsel s.swdData s else sendHeader p r a s) := by
  cases p <;> cases r <;> rcases regAddr_cases a with rfl | rfl | rfl | rfl <;> rfl

theorem exec_swdReadPacket (p : Bool) (a : RegAddr) (s : State) :
    exec (.swdReadPacket p a) s =
      .next (answer (.swdRead (ackStatus (swdRead p a s).ack) (swdRead p a s).data) (swdRead p a s).state) := rfl

theorem exec_swdWritePacket (p : Bool) (a : RegAddr) (d : Word) (s : State) :
    exec (.swdWritePacket p a d) s =
      .next (answer (.swdWrite (ackStatus (swdWrite p a d s).ack)) (swdWrite p a d s).state) := rfl

/-- An accepted header byte is one of the 16, and its instruction is its row (R102). -/
theorem decodeHeader_eq_ok {h : HeaderByte} {i : Instr} (ok : decodeHeader h = .ok i) :
    ∃ p r a, h = header p r a ∧ i = headerRow p r a := by
  unfold decodeHeader at ok
  split at ok
  · cases ok
  · next good =>
    cases ok
    exact ⟨_, _, _, DecodeEncode.eq_header_of_headerError good, rfl⟩

/-- An accepted packet is one of the three (R94). -/
theorem decodePacket_eq_ok {w : PacketWord} {i : Instr} (ok : decodePacket w = .ok i) :
    (∃ p a, i = .swdReadPacket p a) ∨ (∃ d, i = .swdTargetselPacket d) ∨ ∃ p a d, i = .swdWritePacket p a d := by
  unfold decodePacket at ok
  split at ok
  · cases ok
  · split_ifs at ok <;> cases ok
    · exact .inl ⟨_, _, rfl⟩
    · exact .inr (.inl ⟨_, rfl⟩)
    · exact .inr (.inr ⟨_, _, _, rfl⟩)

theorem framerWork_eq_run {d : Except DecodeError Instr} {s u : State} {i : Instr}
    (work : framerWork d s = .run i u) : d = .ok i ∧ u = s := by
  cases d with
  | ok j => cases work; exact ⟨rfl, rfl⟩
  | error e => cases work

theorem framerWork_ne_done (d : Except DecodeError Instr) (s u : State) : framerWork d s ≠ .done u := by
  cases d <;> simp [framerWork]

/-- A call of TCK without a rising edge leaves the level as it is or is a falling edge. -/
theorem setTck_eq_done {v : Bool} {s u : State} (done : setTck v s = .done u) :
    (v = s.tck ∧ u = s) ∨ (v = false ∧ s.tck = true ∧ u = fallingEdge s) := by
  cases high : s.tck <;> cases v <;> simp only [setTck, high] at done <;> cases done
  · exact .inl ⟨rfl, rfl⟩
  · exact .inr ⟨rfl, rfl, rfl⟩
  · exact .inl ⟨rfl, rfl⟩

/-! Every way to a next state. -/

/-- `StepTo s t`: the ways in which a step leads from `s` to `t`, one for each thing that it can be. -/
inductive StepTo (s : State) : State → Prop where
  /-- No call is pending (R15). -/
  | rest (idle : s.framer = .idle) (none : s.events = []) : StepTo s s
  /-- The ACK of a header sent by itself. -/
  | ack (due : s.framer ≠ .idle) : StepTo s (receiveAck (ackPhase s).1 (ackPhase s).2)
  | setTms {v rest} (idle : s.framer = .idle) (ev : s.events = .setTms v :: rest) :
    StepTo s { s with events := rest, tms := v }
  | setTdi {v rest} (idle : s.framer = .idle) (ev : s.events = .setTdi v :: rest) :
    StepTo s { s with events := rest, tdi := v }
  /-- A level of TCK that is there already (R132). -/
  | sameTck {rest} (idle : s.framer = .idle) (ev : s.events = .setTck s.tck :: rest) :
    StepTo s { s with events := rest }
  | falling {rest} (idle : s.framer = .idle) (ev : s.events = .setTck false :: rest) (high : s.tck = true) :
    StepTo s (fallingEdge { s with events := rest })
  | rising {rest u} (idle : s.framer = .idle) (ev : s.events = .setTck true :: rest) (low : s.tck = false)
    (action : exec (tapInstr s) { s with events := rest } = .next u) : StepTo s (finishRisingEdge u)
  | getTdo {rest} (idle : s.framer = .idle) (ev : s.events = .getTdo :: rest) :
    StepTo s (answer (.tdo s.tdo) { s with events := rest })
  | connect {rest} (idle : s.framer = .idle) (ev : s.events = .connect :: rest) :
    StepTo s (Machine.connect { s with events := rest })
  | dmiRead {addr rest} (idle : s.framer = .idle) (ev : s.events = .dmiRead addr :: rest) :
    StepTo s (dmiReadCall addr { s with events := rest })
  | dmiWrite {addr data rest} (idle : s.framer = .idle) (ev : s.events = .dmiWrite addr data :: rest) :
    StepTo s (dmiWriteAccess addr data { s with events := rest })
  | bindRead {b rest} (idle : s.framer = .idle) (ev : s.events = .bindRead b :: rest) :
    StepTo s { s with events := rest, dmiReadBinding := boundTo b }
  | bindWrite {b rest} (idle : s.framer = .idle) (ev : s.events = .bindWrite b :: rest) :
    StepTo s { s with events := rest, dmiWriteBinding := boundTo b }
  /-- A header sent by itself. -/
  | header {p r a d rest} (idle : s.framer = .idle) (ev : s.events = .swdHeader (Machine.header p r a) d :: rest) :
    StepTo s (sendHeader p r a { s with events := rest, swdData := d })
  /-- TARGETSEL, as a header or as a packet. -/
  | targetsel {e d data rest} (idle : s.framer = .idle) (ev : s.events = e :: rest) (framer : e.isBlockCall = false) :
    StepTo s (swdTargetsel d { s with events := rest, swdData := data })
  | readPacket {w p a rest} (idle : s.framer = .idle) (ev : s.events = .swdPacket w :: rest) :
    StepTo s (answer (.swdRead (ackStatus (swdRead p a { s with events := rest }).ack)
      (swdRead p a { s with events := rest }).data) (swdRead p a { s with events := rest }).state)
  | writePacket {w p a data rest} (idle : s.framer = .idle) (ev : s.events = .swdPacket w :: rest) :
    StepTo s (answer (.swdWrite (ackStatus (swdWrite p a data { s with events := rest }).ack))
      (swdWrite p a data { s with events := rest }).state)

/-- A word of the framer by itself. -/
theorem stepTo_of_run {s t u : State} {e : Event} {i : Instr} {rest : List Event} (idle : s.framer = .idle)
    (ev : s.events = e :: rest) (work : callWork e { s with events := rest } = .run i u) (run : exec i u = .next t) :
    StepTo s t := by
  cases e with
  | swdHeader h d =>
    obtain ⟨ok, rfl⟩ := framerWork_eq_run work
    obtain ⟨p, r, a, rfl, rfl⟩ := decodeHeader_eq_ok ok
    rw [exec_headerRow] at run
    split_ifs at run <;> cases run
    · exact .targetsel idle ev rfl
    · exact .header idle ev
  | swdPacket w =>
    obtain ⟨ok, rfl⟩ := framerWork_eq_run work
    rcases decodePacket_eq_ok ok with ⟨p, a, rfl⟩ | ⟨d, rfl⟩ | ⟨p, a, d, rfl⟩ <;> cases run
    · exact .readPacket idle ev
    · exact .targetsel idle ev rfl
    · exact .writePacket idle ev
  | setTck v => simp only [callWork, setTck] at work; split at work <;> cases work
  | _ => cases work

theorem stepTo_of_step {s t : State} (h : step s = .next t) : StepTo s t := by
  rcases step_cases h with ⟨idle, none, rfl⟩ | ⟨due, run⟩ | ⟨e, rest, idle, ev, edge | run | done⟩
  · exact .rest idle none
  · rw [exec_decodeAck] at run
    cases run
    exact .ack due
  · obtain ⟨rfl, low, u, action, rfl⟩ := edge
    exact .rising idle ev low action
  · obtain ⟨i, u, work, run⟩ := run
    exact stepTo_of_run idle ev work run
  · cases e with
    | setTms v => cases done; exact .setTms idle ev
    | setTdi v => cases done; exact .setTdi idle ev
    | setTck v =>
      obtain ⟨rfl, rfl⟩ | ⟨rfl, high, rfl⟩ := setTck_eq_done done
      · exact .sameTck idle ev
      · exact .falling idle ev high
    | getTdo => cases done; exact .getTdo idle ev
    | connect => cases done; exact .connect idle ev
    | dmiRead addr => cases done; exact .dmiRead idle ev
    | dmiWrite addr data => cases done; exact .dmiWrite idle ev
    | bindRead b => cases done; exact .bindRead idle ev
    | bindWrite b => cases done; exact .bindWrite idle ev
    | destroy => cases done
    | swdHeader h d => exact absurd done (framerWork_ne_done _ _ _)
    | swdPacket w => exact absurd done (framerWork_ne_done _ _ _)

end Sys2Proof.Proofs.Steps
end

section
/-! PROOF. What a step does to the VDTM (R22 to R28, R132 to R135), and the invariant of the VDTM. -/

namespace Sys2Proof.Proofs.Vdtm

open Sys2Proof Sys2Proof.Machine Sys2Proof.Proofs.TapActions Sys2Proof.Proofs.Steps

/-! What only edges and binders change. -/

/-- `t` has the registers, the levels that edges set, the bindings and the configuration of `s`. -/
structure SameVdtm (s t : State) : Prop where
  idcode : t.idcode = s.idcode
  ir : t.ir = s.ir
  shifter : t.shifter = s.shifter
  tapState : t.tapState = s.tapState
  dmiRdata : t.dmiRdata = s.dmiRdata
  tck : t.tck = s.tck
  tdo : t.tdo = s.tdo
  dmiReadBinding : t.dmiReadBinding = s.dmiReadBinding
  dmiWriteBinding : t.dmiWriteBinding = s.dmiWriteBinding
  targetsel : t.targetsel = s.targetsel
  apsel : t.apsel = s.apsel

theorem SameVdtm.refl (s : State) : SameVdtm s s := by constructor <;> rfl

theorem sameVdtm_of_sameBeyondWire {s t : State} (h : SameBeyondWire s t) : SameVdtm s t where
  idcode := h.idcode
  ir := h.ir
  shifter := h.shifter
  tapState := h.tapState
  dmiRdata := h.dmiRdata
  tck := h.tck
  tdo := h.tdo
  dmiReadBinding := h.dmiReadBinding
  dmiWriteBinding := h.dmiWriteBinding
  targetsel := h.targetsel
  apsel := h.apsel

theorem SameVdtm.trans {s t u : State} (h : SameVdtm s t) (g : SameVdtm t u) : SameVdtm s u where
  idcode := g.idcode.trans h.idcode
  ir := g.ir.trans h.ir
  shifter := g.shifter.trans h.shifter
  tapState := g.tapState.trans h.tapState
  dmiRdata := g.dmiRdata.trans h.dmiRdata
  tck := g.tck.trans h.tck
  tdo := g.tdo.trans h.tdo
  dmiReadBinding := g.dmiReadBinding.trans h.dmiReadBinding
  dmiWriteBinding := g.dmiWriteBinding.trans h.dmiWriteBinding
  targetsel := g.targetsel.trans h.targetsel
  apsel := g.apsel.trans h.apsel

theorem sameVdtm_answer (r : Return) (s : State) : SameVdtm s (answer r s) := by constructor <;> rfl

theorem sameVdtm_events (es : List Event) (s : State) : SameVdtm s { s with events := es } := by constructor <;> rfl

theorem sameVdtm_receiveAck (k : Ack) (s : State) : SameVdtm s (receiveAck k s) := by
  unfold receiveAck
  split
  · exact sameVdtm_answer _ s
  · rw [readDataPhase_eq]; constructor <;> rfl
  · rw [writeDataPhase_eq]; constructor <;> simp

theorem sameVdtm_ackPhase (s : State) : SameVdtm s (ackPhase s).2 := by
  rw [ackPhase_snd]; constructor <;> rfl

theorem sameVdtm_sendHeader (p r : Bool) (a : RegAddr) (s : State) : SameVdtm s (sendHeader p r a s) := by
  rw [sendHeader, requestPhase_eq]; constructor <;> rfl

/-! What an upcall leaves as it was. -/

/-- `t` has everything of `s` that no upcall of a DMI operation touches: all of the VDTM but `dmi_rdata`. -/
structure SameButRdata (s t : State) : Prop where
  idcode : t.idcode = s.idcode
  ir : t.ir = s.ir
  shifter : t.shifter = s.shifter
  tapState : t.tapState = s.tapState
  tck : t.tck = s.tck
  tms : t.tms = s.tms
  tdi : t.tdi = s.tdi
  tdo : t.tdo = s.tdo
  dmiReadBinding : t.dmiReadBinding = s.dmiReadBinding
  dmiWriteBinding : t.dmiWriteBinding = s.dmiWriteBinding
  targetsel : t.targetsel = s.targetsel
  apsel : t.apsel = s.apsel
  framer : t.framer = s.framer
  events : t.events = s.events

theorem SameButRdata.refl (s : State) : SameButRdata s s := by constructor <;> rfl

theorem sameButRdata_of_sameBeyondWire {s t : State} {us : List Upcall} {v : Word}
    (h : SameBeyondWire { s with upcalls := us } t) : SameButRdata s { t with dmiRdata := v } where
  idcode := h.idcode
  ir := h.ir
  shifter := h.shifter
  tapState := h.tapState
  tck := h.tck
  tms := h.tms
  tdi := h.tdi
  tdo := h.tdo
  dmiReadBinding := h.dmiReadBinding
  dmiWriteBinding := h.dmiWriteBinding
  targetsel := h.targetsel
  apsel := h.apsel
  framer := h.framer
  events := h.events

theorem sameButRdata_callDmiRead {addr : DmiAddr} {s t : State} (h : callDmiRead addr s = .next t) :
    SameButRdata s t := by
  obtain ⟨-, rfl⟩ | ⟨-, rfl⟩ | ⟨-, rest, n, v, rfl⟩ := callDmiRead_cases h
  · exact .refl _
  · exact sameButRdata_of_sameBeyondWire (sameBeyondWire_dmiReadAccess addr (logUpcall (.read addr) s))
  · constructor <;> rfl

theorem sameButRdata_callDmiWrite {addr : DmiAddr} {data : Word} {s t : State}
    (h : callDmiWrite addr data s = .next t) : SameButRdata s t ∧ t.dmiRdata = s.dmiRdata := by
  obtain ⟨-, rfl⟩ | ⟨-, rfl⟩ | ⟨-, rest, rfl⟩ := callDmiWrite_cases h
  · exact ⟨.refl _, rfl⟩
  · have frame := sameBeyondWire_dmiWriteAccess addr data (logUpcall (.write addr data) s)
    exact ⟨sameButRdata_of_sameBeyondWire frame, frame.dmiRdata⟩
  · exact ⟨by constructor <;> rfl, rfl⟩

/-- What a dispatched DMI operation leaves as it was, and when `dmi_rdata` is written (R25, R202). -/
theorem exec_decodeDmi_frame {v : ShiftReg} {s t : State} (h : exec (decodeDmi v) s = .next t) :
    SameButRdata s t ∧ (t.dmiRdata = s.dmiRdata ∨ (dmiOp v = 1#2 ∧ s.dmiReadBinding ≠ .unbound)) := by
  unfold decodeDmi at h
  split_ifs at h with op0 op1 op2
  · cases h; exact ⟨.refl _, .inl rfl⟩
  · refine ⟨sameButRdata_callDmiRead h, ?_⟩
    by_cases unbound : s.dmiReadBinding = .unbound
    · obtain ⟨-, rfl⟩ | ⟨bound, -⟩ | ⟨bound, -⟩ := callDmiRead_cases h
      · exact .inl rfl
      · rw [unbound] at bound; cases bound
      · rw [unbound] at bound; cases bound
    · exact .inr ⟨op1, unbound⟩
  · obtain ⟨frame, rdata⟩ := sameButRdata_callDmiWrite h
    exact ⟨frame, .inl rdata⟩
  · cases h; exact ⟨.refl _, .inl rfl⟩

/-! What a step does to the VDTM. -/

/-- The VDTM after a rising edge whose action leaves `v` in `dmi_rdata` (R135). -/
def afterEdge (v : Word) (s : State) : State :=
  { s with
    ir := if nextState s.tapState s.tms = .sReset then irIdcode else tapIr s
    shifter := tapShifter s
    dmiRdata := v
    tapState := nextState s.tapState s.tms
    tck := true }

theorem finishRisingEdge_tapNext (s : State) : finishRisingEdge (tapNext s) = afterEdge s.dmiRdata s := rfl

/-- The ways in which a step changes the VDTM: not at all, by a binder, by a falling or by a rising edge. -/
inductive VdtmStep (s t : State) : Prop where
  | same (frame : SameVdtm s t)
  | bindRead (b : Bool) (idle : s.framer = .idle) (call : s.events.head? = some (.bindRead b))
    (frame : SameVdtm { s with dmiReadBinding := boundTo b } t)
  | bindWrite (b : Bool) (idle : s.framer = .idle) (call : s.events.head? = some (.bindWrite b))
    (frame : SameVdtm { s with dmiWriteBinding := boundTo b } t)
  | falling (idle : s.framer = .idle) (call : s.events.head? = some (.setTck false)) (high : s.tck = true)
    (frame : SameVdtm (fallingEdge s) t)
  /-- `v` is what `dmi_rdata` holds after the action. -/
  | rising (v : Word) (idle : s.framer = .idle) (call : s.events.head? = some (.setTck true)) (low : s.tck = false)
    (rdata : v = s.dmiRdata ∨ (s.tapState = .sUpdateDr ∧ s.ir = irDmi ∧ dmiOp s.shifter = 1#2 ∧
      s.dmiReadBinding ≠ .unbound))
    (frame : SameVdtm (afterEdge v s) t)

theorem tapInstr_of_dispatch {s : State} (h : s.tapState = .sUpdateDr ∧ s.ir = irDmi) :
    tapInstr s = decodeDmi s.shifter := if_pos h

theorem tapInstr_of_quiet {s : State} (h : ¬ (s.tapState = .sUpdateDr ∧ s.ir = irDmi)) :
    tapInstr s = decodeIr s.ir := if_neg h

/-- A rising edge does what `tapNext` says, but for what a dispatched DMI operation does, and moves the TAP. -/
theorem exec_tapInstr_frame {s u : State} {rest : List Event}
    (action : exec (tapInstr s) { s with events := rest } = .next u) :
    ∃ v : Word, (v = s.dmiRdata ∨ (s.tapState = .sUpdateDr ∧ s.ir = irDmi ∧ dmiOp s.shifter = 1#2 ∧
        s.dmiReadBinding ≠ .unbound)) ∧
      SameVdtm (afterEdge v s) (finishRisingEdge u) := by
  by_cases dispatch : s.tapState = .sUpdateDr ∧ s.ir = irDmi
  · rw [tapInstr_of_dispatch dispatch] at action
    obtain ⟨frame, rdata⟩ := exec_decodeDmi_frame action
    have quiet : tapIr s = s.ir ∧ tapShifter s = s.shifter := tapIr_tapShifter_of_tapState (.inr dispatch.1)
    refine ⟨u.dmiRdata, rdata.imp_right fun read => ⟨dispatch.1, dispatch.2, read⟩, ?_⟩
    constructor <;> simp [afterEdge, quiet, frame.idcode, frame.ir, frame.shifter, frame.tapState, frame.tms, frame.tdo,
      frame.dmiReadBinding, frame.dmiWriteBinding, frame.targetsel, frame.apsel]
  · rw [tapInstr_of_quiet dispatch] at action
    cases (exec_decodeIr (s := { s with events := rest }) dispatch).symm.trans action
    exact ⟨s.dmiRdata, .inl rfl, by constructor <;> rfl⟩

theorem vdtmStep_of_step {s t : State} (h : step s = .next t) : VdtmStep s t := by
  cases stepTo_of_step h with
  | rest | sameTck => exact .same (by constructor <;> rfl)
  | ack => exact .same ((sameVdtm_ackPhase s).trans (sameVdtm_receiveAck _ _))
  | setTms | setTdi => exact .same (by constructor <;> rfl)
  | falling idle ev high => exact .falling idle (by rw [ev]; rfl) high (by constructor <;> rfl)
  | rising idle ev low action =>
    obtain ⟨v, rdata, frame⟩ := exec_tapInstr_frame action
    exact .rising v idle (by rw [ev]; rfl) low rdata frame
  | getTdo => exact .same (by constructor <;> rfl)
  | connect => exact .same ((sameVdtm_events _ s).trans (sameVdtm_of_sameBeyondWire (sameBeyondWire_connect _)))
  | dmiRead =>
    exact .same ((sameVdtm_events _ s).trans
      ((sameVdtm_of_sameBeyondWire (sameBeyondWire_dmiReadAccess _ _)).trans (sameVdtm_answer _ _)))
  | dmiWrite =>
    exact .same ((sameVdtm_events _ s).trans (sameVdtm_of_sameBeyondWire (sameBeyondWire_dmiWriteAccess _ _ _)))
  | bindRead idle ev => exact .bindRead _ idle (by rw [ev]; rfl) (by constructor <;> rfl)
  | bindWrite idle ev => exact .bindWrite _ idle (by rw [ev]; rfl) (by constructor <;> rfl)
  | header =>
    exact .same (.trans (by constructor <;> rfl) (sameVdtm_sendHeader _ _ _ _))
  | targetsel =>
    exact .same (.trans (by constructor <;> rfl) (sameVdtm_of_sameBeyondWire (sameBeyondWire_swdTargetsel _ _)))
  | readPacket =>
    exact .same ((sameVdtm_events _ s).trans
      ((sameVdtm_of_sameBeyondWire (sameBeyondWire_swdRead _ _ _)).trans (sameVdtm_answer _ _)))
  | writePacket =>
    exact .same ((sameVdtm_events _ s).trans
      ((sameVdtm_of_sameBeyondWire (sameBeyondWire_swdWrite _ _ _ _)).trans (sameVdtm_answer _ _)))

end Sys2Proof.Proofs.Vdtm
end

section
/-! PROOF. The statements about single steps of the VDTM: what they change (R22 to R28, R134, R140), the invariant of the
VDTM, and every stop (R144, R176, R320). -/

namespace Sys2Proof.Proofs.VdtmSteps

open Sys2Proof Sys2Proof.Machine Sys2Proof.Proofs.TapActions Sys2Proof.Proofs.Steps Sys2Proof.Proofs.Vdtm

/-! At construction. -/

/-- Settles O6, field by field. -/
theorem constructionState : Obligations.ConstructionState := by
  unfold Obligations.ConstructionState
  exact ⟨rfl, rfl, rfl, rfl⟩

/-- Settles O7, field by field. -/
theorem constructionChoices : Obligations.ConstructionChoices := by
  unfold Obligations.ConstructionChoices
  exact ⟨rfl, rfl, rfl, rfl, rfl, rfl, rfl, rfl, rfl⟩

/-- Settles O24: S_RESET is in neither scan, TDO and its policy are both 0, and no call is pending. -/
theorem invariantsAtReset : Obligations.InvariantsAtReset := by
  unfold Obligations.InvariantsAtReset
  exact ⟨⟨fun _ => rfl, nofun, nofun, fun _ => rfl⟩, ⟨rfl, nofun, nofun, nofun⟩⟩

/-! The fetch of a rising edge and of the framer. -/

/-- Settles O13: the fetch distinguishes the two cases, and what follows is the same. -/
theorem risingEdgeRunsInstruction : Obligations.RisingEdgeRunsInstruction := by
  unfold Obligations.RisingEdgeRunsInstruction
  intro s rest idle low ev
  refine ⟨fun quiet => ?_, fun up dmi => ?_, fun t => rfl⟩
  · rw [step_rising idle low ev, tapInstr_of_quiet quiet]
  · rw [step_rising idle low ev, tapInstr_of_dispatch ⟨up, dmi⟩]

/-- Settles O14: the two calls hand their decoded word to the step, and with an ACK due the step samples it first. -/
theorem framerStepRunsInstruction : Obligations.FramerStepRunsInstruction := by
  unfold Obligations.FramerStepRunsInstruction
  intro s rest
  refine ⟨fun h d i idle ev ok => ?_, fun w i idle ev ok => ?_, fun due => ?_⟩
  · simp only [step, nextWork_of_events idle ev, callWork, ok, framerWork]
  · simp only [step, nextWork_of_events idle ev, callWork, ok, framerWork]
  · simp only [step, nextWork_of_framer due, ackPhase_fst, ackPhase_snd, tookBits]

/-! What a step changes. -/

/-- Settles O17: a rising edge ends in `nextState` of the state and TMS it began with, which is the table. -/
theorem tapWalksTheTable : Obligations.TapWalksTheTable := by
  unfold Obligations.TapWalksTheTable
  intro s t rest idle low ev h row mem tap
  have moved : t.tapState = nextState s.tapState s.tms := by
    rw [step_rising idle low ev] at h
    obtain ⟨u, action, rfl⟩ := continueWith_eq_next h
    obtain ⟨v, -, frame⟩ := exec_tapInstr_frame action
    exact frame.tapState
  rw [moved, tap]
  clear tap
  cases s.tms <;> revert row <;> decide

/-- Settles O26: no way of a step touches the configuration, and only the binders' ways touch a binding. -/
theorem stepKeepsConfiguration : Obligations.StepKeepsConfiguration := by
  unfold Obligations.StepKeepsConfiguration
  intro s
  refine ⟨fun t h => ?_, fun b rest idle => ⟨fun ev => ?_, fun ev => ?_⟩⟩
  · cases vdtmStep_of_step h with
    | same frame | falling _ _ _ frame | rising _ _ _ _ _ frame =>
      exact ⟨frame.idcode, frame.targetsel, frame.apsel, absurd frame.dmiReadBinding, absurd frame.dmiWriteBinding⟩
    | bindRead b idle call frame =>
      exact ⟨frame.idcode, frame.targetsel, frame.apsel, fun _ => ⟨idle, b, call⟩, absurd frame.dmiWriteBinding⟩
    | bindWrite b idle call frame =>
      exact ⟨frame.idcode, frame.targetsel, frame.apsel, absurd frame.dmiReadBinding, fun _ => ⟨idle, b, call⟩⟩
  · rw [TapEdges.step_of_callWork_done idle ev rfl]
    cases b <;> rfl
  · rw [TapEdges.step_of_callWork_done idle ev rfl]
    cases b <;> rfl

/-- Settles O27: every other way of a step leaves `dmi_rdata` as it is. -/
theorem dmiRdataWrittenByReadsOnly : Obligations.DmiRdataWrittenByReadsOnly := by
  unfold Obligations.DmiRdataWrittenByReadsOnly
  intro s t h changed
  cases vdtmStep_of_step h with
  | same frame | bindRead _ _ _ frame | bindWrite _ _ _ frame | falling _ _ _ frame =>
    exact absurd frame.dmiRdata changed
  | rising v idle call low rdata frame =>
    rcases rdata with rfl | ⟨up, dmi, op, bound⟩
    · exact absurd frame.dmiRdata changed
    · exact ⟨idle, call, low, up, dmi, op, bound⟩

/-- The TAP is in S_RESET after an edge only if it was there or came from S_SELECT_IR with TMS = 1. -/
theorem nextState_eq_sReset {tap : TapState} {tms : Bool} (h : nextState tap tms = .sReset) :
    (tap = .sReset ∨ tap = .sSelectIr) ∧ tms = true := by
  cases tap <;> cases tms <;> simp [nextState] at h ⊢

theorem tapIr_of_ne {s : State} (reset : s.tapState ≠ .sReset) (update : s.tapState ≠ .sUpdateIr) : tapIr s = s.ir := by
  unfold tapIr
  split
  · exact absurd ‹_› reset
  · exact absurd ‹_› update
  · rfl

/-- Settles O28: only a rising edge's action in two states and its entry into S_RESET write `ir`. -/
theorem irWrittenInThreePlacesOnly : Obligations.IrWrittenInThreePlacesOnly := by
  unfold Obligations.IrWrittenInThreePlacesOnly
  intro s t h changed
  cases vdtmStep_of_step h with
  | same frame | bindRead _ _ _ frame | bindWrite _ _ _ frame | falling _ _ _ frame => exact absurd frame.ir changed
  | rising v idle call low rdata frame =>
    refine ⟨idle, call, low, ?_⟩
    by_cases update : s.tapState = .sUpdateIr
    · exact .inl update
    by_cases reset : s.tapState = .sReset
    · exact .inr (.inl reset)
    refine .inr (.inr ?_)
    by_cases enters : nextState s.tapState s.tms = .sReset
    · obtain ⟨from_, high⟩ := nextState_eq_sReset enters
      exact ⟨from_.resolve_left reset, high⟩
    · refine absurd (frame.ir.trans ?_) changed
      exact (if_neg enters).trans (tapIr_of_ne reset update)

/-- Settles O29: TDO is written by the falling edge's way, the TAP state by the rising edge's. -/
theorem tdoAndTapChangeOnTheirEdges : Obligations.TdoAndTapChangeOnTheirEdges := by
  unfold Obligations.TdoAndTapChangeOnTheirEdges
  intro s t h
  cases vdtmStep_of_step h with
  | same frame | bindRead _ _ _ frame | bindWrite _ _ _ frame => exact ⟨absurd frame.tdo, absurd frame.tapState⟩
  | falling idle call high frame => exact ⟨fun _ => ⟨idle, call, high⟩, absurd frame.tapState⟩
  | rising v idle call low rdata frame => exact ⟨absurd frame.tdo, fun _ => ⟨idle, call, low⟩⟩

/-! The invariant of the VDTM. -/

theorem jtagInv_of_sameVdtm {s t : State} (frame : SameVdtm s t) (inv : JtagInv s) : JtagInv t where
  resetSelectsIdcode := by rw [frame.tapState, frame.ir]; exact inv.resetSelectsIdcode
  irScanFits := by rw [frame.tapState, frame.shifter]; exact inv.irScanFits
  drScanFits := by rw [frame.tapState, frame.ir, frame.shifter]; exact inv.drScanFits
  tdoFollowsPolicy := by rw [frame.tck, frame.tdo, frame.tapState, frame.shifter]; exact inv.tdoFollowsPolicy

/-- An IR scan is entered through CAPTURE-IR. -/
theorem inIrScan_of_nextState {tap : TapState} {tms : Bool} (h : (nextState tap tms).inIrScan = true) :
    tap = .sCaptureIr ∨ tap.inIrScan = true := by
  cases tap <;> cases tms <;> simp [nextState, TapState.inIrScan] at h ⊢

/-- A DR scan is entered through CAPTURE-DR. -/
theorem inDrScan_of_nextState {tap : TapState} {tms : Bool} (h : (nextState tap tms).inDrScan = true) :
    tap = .sCaptureDr ∨ tap.inDrScan = true := by
  cases tap <;> cases tms <;> simp [nextState, TapState.inDrScan] at h ⊢

theorem shiftIr_fits {s : State} (fits : s.shifter.toNat < 32) : (shiftIr s).shifter.toNat < 32 := by
  have tdi : (bitAtZero s.tdi <<< (wIr - 1)).toNat < 2 ^ 5 := by cases s.tdi <;> decide
  have rest : (s.shifter >>> 1).toNat < 2 ^ 5 := by
    rw [BitVec.toNat_ushiftRight, Nat.shiftRight_eq_div_pow]
    omega
  rw [shiftIr_shifter, BitVec.toNat_or]
  exact Nat.or_lt_two_pow rest tdi

theorem shiftDr_fits (ir : IrCode) (s : State) : (shiftDr (drLen ir) s).shifter.toNat < 2 ^ drLen ir := by
  apply Nat.lt_pow_two_of_testBit
  intro i hi
  have bit := shiftDr_getLsbD ir s i
  rw [if_neg (by omega), if_neg (by omega)] at bit
  exact bit

theorem captureValue_fits {s : State} (defined : definedIr s.ir = true) :
    (captureValue s).toNat < 2 ^ drLen s.ir := by
  have word (v : Word) : (captureWord v).toNat < 2 ^ 32 := by
    rw [captureWord, BitVec.toNat_setWidth_of_le (by decide)]
    exact v.isLt
  rcases irCode_cases s.ir with h | h | h | h | h
  · simp [captureValue, h]
  · simpa [captureValue, h, irBypass, irIdcode, drLen] using word s.idcode
  · simpa [captureValue, h, irBypass, irIdcode, irDtmcs, drLen] using word dtmcsValue
  · rw [h]; exact (captureValue s).isLt
  · rw [h] at defined; cases defined

theorem tapShifter_fits_ir {s : State} (inv : JtagInv s) (h : s.tapState = .sCaptureIr ∨ s.tapState.inIrScan = true) :
    (tapShifter s).toNat < 32 := by
  unfold tapShifter
  rcases h with capture | scan
  · simp only [capture, captureIrCode]
    rw [BitVec.toNat_setWidth_of_le (by decide)]
    exact s.ir.isLt
  · have fits := inv.irScanFits scan
    cases tap : s.tapState with
    | sShiftIr => exact shiftIr_fits fits
    | sExit1Ir | sPauseIr | sExit2Ir | sUpdateIr => exact fits
    | _ => rw [tap] at scan; cases scan

theorem tapShifter_fits_dr {s : State} (inv : JtagInv s) (defined : definedIr s.ir = true)
    (h : s.tapState = .sCaptureDr ∨ s.tapState.inDrScan = true) : (tapShifter s).toNat < 2 ^ drLen s.ir := by
  unfold tapShifter
  rcases h with capture | scan
  · simp only [capture]
    exact captureValue_fits defined
  · have fits := inv.drScanFits scan defined
    cases tap : s.tapState with
    | sShiftDr => exact shiftDr_fits s.ir s
    | sExit1Dr | sPauseDr | sExit2Dr | sUpdateDr => exact fits
    | _ => rw [tap] at scan; cases scan

/-- A rising edge into a DR scan leaves `ir` alone. -/
theorem afterEdge_ir_of_inDrScan {v : Word} {s : State} (scan : (afterEdge v s).tapState.inDrScan = true) :
    (afterEdge v s).ir = s.ir := by
  have inside : ¬ nextState s.tapState s.tms = .sReset := by
    intro reset
    rw [show (afterEdge v s).tapState = .sReset from reset] at scan
    cases scan
  refine (if_neg inside).trans (tapIr_of_ne ?_ ?_) <;> intro tap <;>
    rcases inDrScan_of_nextState scan with h | h <;> rw [tap] at h <;> cases h

/-- A rising edge keeps the invariant: TCK is high after it, and each scan keeps its register's length. -/
theorem jtagInv_afterEdge {s : State} (v : Word) (inv : JtagInv s) : JtagInv (afterEdge v s) where
  resetSelectsIdcode reset := if_pos reset
  irScanFits scan := tapShifter_fits_ir inv (inIrScan_of_nextState scan)
  drScanFits scan := by
    rw [afterEdge_ir_of_inDrScan scan]
    exact fun defined => tapShifter_fits_dr inv defined (inDrScan_of_nextState scan)
  tdoFollowsPolicy low := by cases low

/-- Settles O25, by the ways in which a step changes the VDTM. -/
theorem stepKeepsJtagInv : Obligations.StepKeepsJtagInv := by
  unfold Obligations.StepKeepsJtagInv
  intro s t inv h
  obtain ⟨reset, ir, dr, policy⟩ := id inv
  cases vdtmStep_of_step h with
  | same frame => exact jtagInv_of_sameVdtm frame inv
  | bindRead b _ _ frame | bindWrite b _ _ frame => exact jtagInv_of_sameVdtm frame ⟨reset, ir, dr, policy⟩
  | falling _ _ _ frame => exact jtagInv_of_sameVdtm frame ⟨reset, ir, dr, fun _ => rfl⟩
  | rising v _ _ _ _ frame => exact jtagInv_of_sameVdtm frame (jtagInv_afterEdge v inv)

/-! Stops. -/

theorem callDmiRead_eq_fault {addr : DmiAddr} {s : State} {r : Fault} (h : callDmiRead addr s = .fault r) :
    s.dmiReadBinding = .environment := by
  cases bound : s.dmiReadBinding <;> simp [callDmiRead, bound] at h ⊢

theorem callDmiWrite_eq_fault {addr : DmiAddr} {data : Word} {s : State} {r : Fault}
    (h : callDmiWrite addr data s = .fault r) : s.dmiWriteBinding = .environment := by
  cases bound : s.dmiWriteBinding <;> simp [callDmiWrite, bound] at h ⊢

/-- A dispatched DMI operation faults only in an upcall to the environment that hangs. -/
theorem exec_decodeDmi_eq_fault {v : ShiftReg} {s : State} {r : Fault} (h : exec (decodeDmi v) s = .fault r) :
    s.upcallIn.head? = some .hangs ∧
      ((dmiOp v = 1#2 ∧ s.dmiReadBinding = .environment) ∨ (dmiOp v = 2#2 ∧ s.dmiWriteBinding = .environment)) := by
  unfold decodeDmi at h
  split_ifs at h with op0 op1 op2
  · cases h
  · exact ⟨callDmiRead_stops.1 r h, .inl ⟨op1, callDmiRead_eq_fault h⟩⟩
  · exact ⟨callDmiWrite_stops.1 r h, .inr ⟨op2, callDmiWrite_eq_fault h⟩⟩
  · cases h

theorem exec_decodeDmi_ne_refused (v : ShiftReg) (s : State) (r : Refusal) : exec (decodeDmi v) s ≠ .refused r := by
  unfold decodeDmi
  split_ifs
  · nofun
  · exact callDmiRead_stops.2 r
  · exact callDmiWrite_stops.2 r
  · nofun

theorem exec_tapInstr_ne_refused (s : State) (rest : List Event) (r : Refusal) :
    exec (tapInstr s) { s with events := rest } ≠ .refused r := by
  by_cases dispatch : s.tapState = .sUpdateDr ∧ s.ir = irDmi
  · rw [tapInstr_of_dispatch dispatch]
    exact exec_decodeDmi_ne_refused _ _ r
  · rw [tapInstr_of_quiet dispatch, exec_decodeIr (s := { s with events := rest }) dispatch]
    nofun

/-- A rising edge faults only where it dispatches a DMI operation whose upcall hangs. -/
theorem exec_tapInstr_eq_fault {s : State} {rest : List Event} {r : Fault}
    (h : exec (tapInstr s) { s with events := rest } = .fault r) :
    s.tapState = .sUpdateDr ∧ s.ir = irDmi ∧ s.upcallIn.head? = some .hangs ∧
      ((dmiOp s.shifter = 1#2 ∧ s.dmiReadBinding = .environment) ∨
        (dmiOp s.shifter = 2#2 ∧ s.dmiWriteBinding = .environment)) := by
  by_cases dispatch : s.tapState = .sUpdateDr ∧ s.ir = irDmi
  · rw [tapInstr_of_dispatch dispatch] at h
    exact ⟨dispatch.1, dispatch.2, exec_decodeDmi_eq_fault (s := { s with events := rest }) h⟩
  · rw [tapInstr_of_quiet dispatch, exec_decodeIr (s := { s with events := rest }) dispatch] at h
    cases h

/-- An accepted header has a next state. -/
theorem exec_of_decodeHeader {h : HeaderByte} {i : Instr} (ok : decodeHeader h = .ok i) (s : State) :
    ∃ t, exec i s = .next t := by
  obtain ⟨p, r, a, -, rfl⟩ := decodeHeader_eq_ok ok
  exact ⟨_, exec_headerRow p r a s⟩

/-- An accepted packet has a next state. -/
theorem exec_of_decodePacket {w : PacketWord} {i : Instr} (ok : decodePacket w = .ok i) (s : State) :
    ∃ t, exec i s = .next t := by
  rcases decodePacket_eq_ok ok with ⟨p, a, rfl⟩ | ⟨d, rfl⟩ | ⟨p, a, d, rfl⟩
  · exact ⟨_, exec_swdReadPacket p a s⟩
  · exact ⟨_, Packets.exec_swdTargetselPacket d s⟩
  · exact ⟨_, exec_swdWritePacket p a d s⟩

/-- The ways in which a step has no next state. -/
inductive Stops (s : State) : Result → Prop where
  | hangs {rest r} (ev : s.events = .setTck true :: rest) (low : s.tck = false)
    (action : exec (tapInstr s) { s with events := rest } = .fault r) : Stops s (.fault r)
  | destroyed {rest} (ev : s.events = .destroy :: rest) : Stops s (.refused .destroyed)
  | header {h d rest e} (ev : s.events = .swdHeader h d :: rest) (bad : decodeHeader h = .error e) :
    Stops s (.refused (.undecodable e))
  | packet {w rest e} (ev : s.events = .swdPacket w :: rest) (bad : decodePacket w = .error e) :
    Stops s (.refused (.undecodable e))

theorem stops_of_rising {s : State} {rest : List Event} (idle : s.framer = .idle) (low : s.tck = false)
    (ev : s.events = .setTck true :: rest) (stops : ∀ t, step s ≠ .next t) : Stops s (step s) := by
  rw [step_rising idle low ev] at stops ⊢
  cases action : exec (tapInstr s) { s with events := rest } with
  | next u => rw [action] at stops; exact absurd rfl (stops _)
  | fault r => exact .hangs ev low action
  | refused r => exact absurd action (exec_tapInstr_ne_refused s rest r)

/-- A step that has no next state takes a call, and stops in one of the ways of `Stops`. -/
theorem stops_of_step {s : State} (stops : ∀ t, step s ≠ .next t) : s.framer = .idle ∧ Stops s (step s) := by
  by_cases idle : s.framer = .idle
  · refine ⟨idle, ?_⟩
    cases ev : s.events with
    | nil => exact absurd (by simp only [step, nextWork_of_no_events idle ev]) (stops s)
    | cons e rest =>
      have work := nextWork_of_events idle ev
      have done {t : State} (h : callWork e { s with events := rest } = .done t) : Stops s (step s) :=
        absurd (TapEdges.step_of_callWork_done idle ev h) (stops t)
      cases e with
      | destroy =>
        simp only [step, work, callWork]
        exact .destroyed ev
      | swdHeader h d =>
        simp only [step, work, callWork] at stops ⊢
        cases word : decodeHeader h with
        | ok i =>
          obtain ⟨t, run⟩ := exec_of_decodeHeader word { s with events := rest, swdData := d }
          rw [word] at stops
          exact absurd run (stops t)
        | error e => exact .header ev word
      | swdPacket w =>
        simp only [step, work, callWork] at stops ⊢
        cases word : decodePacket w with
        | ok i =>
          obtain ⟨t, run⟩ := exec_of_decodePacket word { s with events := rest }
          rw [word] at stops
          exact absurd run (stops t)
        | error e => exact .packet ev word
      | setTck v =>
        cases v with
        | false =>
          cases low : s.tck with
          | false => exact done (t := { s with events := rest }) (by simp only [callWork, setTck, low])
          | true => exact done (TapEdges.setTck_falling (s := { s with events := rest }) low)
        | true =>
          cases low : s.tck with
          | false => exact stops_of_rising idle low ev stops
          | true => exact done (t := { s with events := rest }) (by simp only [callWork, setTck, low])
      | _ => exact done rfl
  · exact absurd (step_ack idle) (stops _)

/-- Settles O30, by the ways in which a step stops. -/
theorem onlyStops : Obligations.OnlyStops := by
  unfold Obligations.OnlyStops
  intro s
  refine ⟨fun r h => ?_, fun r h => ?_⟩
  all_goals
    obtain ⟨idle, stop⟩ := stops_of_step (s := s) (by simp [h])
    rw [h] at stop
  · cases stop with
    | hangs ev low action =>
      obtain ⟨up, dmi, hangs, bound⟩ := exec_tapInstr_eq_fault action
      exact ⟨idle, by rw [ev]; rfl, low, up, dmi, hangs, bound⟩
  · refine ⟨idle, ?_⟩
    cases stop with
    | destroyed ev => exact .inl ⟨rfl, by rw [ev]; rfl⟩
    | header ev bad => exact .inr ⟨_, rfl, .inl ⟨_, _, by rw [ev]; rfl, bad⟩⟩
    | packet ev bad => exact .inr ⟨_, rfl, .inr ⟨_, by rw [ev]; rfl, bad⟩⟩

end Sys2Proof.Proofs.VdtmSteps
end

section
/-! PROOF. A transaction as one exchange (R230, R231): what it does to the state, given the levels it samples; and what
a list of them does. -/

namespace Sys2Proof.Proofs.Exchanges

open Sys2Proof Sys2Proof.Machine

/-! Levels and the fields packed from them. -/

theorem lsbFirst_packLsb {w : Nat} {bits : List Bool} (h : bits.length = w) : lsbFirst (packLsb w bits) = bits := by
  apply List.ext_getElem (by simp [h])
  intro i hi hb
  rw [lsbFirst_getElem, packLsb_getLsbD, List.getD_eq_getElem _ _ hb]
  simp [← h, hb]

@[simp] theorem readAnswer_length (k : Ack) (d : Word) (par : Bool) : (readAnswer k d par).length = 36 := by
  simp [readAnswer]

@[simp] theorem writeAnswer_length (k : Ack) : (writeAnswer k).length = 3 := by simp [writeAnswer]

@[simp] theorem ackOf_readAnswer (k : Ack) (d : Word) (par : Bool) : ackOf (readAnswer k d par) = k := by
  rw [ackOf, readAnswer, List.append_assoc, packLsb_lsbFirst_append]

@[simp] theorem dataOf_readAnswer (k : Ack) (d : Word) (par : Bool) : dataOf (readAnswer k d par) = d := by
  rw [dataOf, readAnswer, List.append_assoc, List.drop_left' (lsbFirst_length k), packLsb_lsbFirst_append]

@[simp] theorem ackOf_writeAnswer (k : Ack) : ackOf (writeAnswer k) = k := by
  rw [ackOf, writeAnswer, List.take_of_length_le (by simp), packLsb_lsbFirst]

theorem writeAnswer_ackOf {bits : List Bool} (h : bits.length = 3) : writeAnswer (ackOf bits) = bits := by
  rw [ackOf, List.take_of_length_le h.le]
  exact lsbFirst_packLsb h

/-- An ACK is OK exactly when its levels are those of OK (R93). -/
theorem ackIsOk_ackOf_iff {bits : List Bool} (h : 3 ≤ bits.length) :
    ackIsOk (ackOf bits) = true ↔ bits.take 3 = lsbFirst 0b001#3 := by
  have len : (bits.take 3).length = 3 := by simp [h]
  rw [ackIsOk_iff, ackOf]
  constructor
  · intro ok
    rw [← lsbFirst_packLsb len, ok]
    rfl
  · intro ok
    rw [ok, packLsb_lsbFirst]
    rfl

/-! One exchange. -/

/-- The state after an exchange, as far as no answer of the target is looked up: what was sampled is the exchange's. -/
def after (x : Exchange) (s : State) : State :=
  if x.rnw then
    { tookBits x.levels.length s with
      swclk := false, swdioDriven := false, swdioLevel := true, wire := s.wire ++ x.trace }
  else
    noteWrite x.apndp x.a x.data (ackOf x.levels)
      { tookBits x.levels.length s with
        swclk := false, swdioDriven := true, swdioLevel := parity x.data, wire := s.wire ++ x.trace }

/-- A read, and a write, with these sampled levels. -/
def readOf (p : Bool) (a : RegAddr) (levels : List Bool) : Exchange := ⟨true, p, a, 0#32, levels⟩
def writeOf (p : Bool) (a : RegAddr) (d : Word) (levels : List Bool) : Exchange := ⟨false, p, a, d, levels⟩

theorem swdRead_eq_after {p : Bool} {a : RegAddr} {s : State} {levels : List Bool} (h : sampledBits 36 s = levels) :
    swdRead p a s = ⟨ackOf levels, dataOf levels, after (readOf p a levels) s⟩ := by
  subst h
  simp [swdRead_eq, after, readOf, afterRead, Exchange.trace]

theorem swdWrite_eq_after {p : Bool} {a : RegAddr} {d : Word} {s : State} {levels : List Bool}
    (h : sampledBits 3 s = levels) : swdWrite p a d s = ⟨ackOf levels, after (writeOf p a d levels) s⟩ := by
  subst h
  have ack : packLsb 3 (sampledBits 3 s) = ackOf (sampledBits 3 s) := by
    rw [ackOf, List.take_of_length_le (by simp)]
  simp [swdWrite_eq, after, writeOf, afterWrite, Exchange.trace, ack]

@[simp] theorem after_swdioIn (x : Exchange) (s : State) : (after x s).swdioIn = s.swdioIn.drop x.levels.length := by
  unfold after; split <;> simp [tookBits]

@[simp] theorem after_draws (x : Exchange) (s : State) :
    (after x s).draws = s.draws + (x.levels.length - s.swdioIn.length) := by
  unfold after; split <;> simp [tookBits]

@[simp] theorem after_wire (x : Exchange) (s : State) : (after x s).wire = s.wire ++ x.trace := by
  unfold after; split <;> simp

@[simp] theorem after_linkFault (x : Exchange) (s : State) : (after x s).linkFault = s.linkFault := by
  unfold after; split <;> simp [tookBits]

@[simp] theorem after_tarCacheValid (x : Exchange) (s : State) : (after x s).tarCacheValid = s.tarCacheValid := by
  unfold after; split <;> simp [tookBits]

@[simp] theorem after_apsel (x : Exchange) (s : State) : (after x s).apsel = s.apsel := by
  unfold after; split <;> simp [tookBits]

@[simp] theorem after_swclk (x : Exchange) (s : State) : (after x s).swclk = false := by
  unfold after; split <;> simp

@[simp] theorem after_swclkOutput (x : Exchange) (s : State) : (after x s).swclkOutput = s.swclkOutput := by
  unfold after; split <;> simp [tookBits]

@[simp] theorem after_returns (x : Exchange) (s : State) : (after x s).returns = s.returns := by
  unfold after; split <;> simp [tookBits]

/-! A list of exchanges. -/

/-- The state after these exchanges, one after the other. -/
def afterAll (xs : List Exchange) (s : State) : State := xs.foldl (fun t x => after x t) s

@[simp] theorem afterAll_nil (s : State) : afterAll [] s = s := rfl

@[simp] theorem afterAll_cons (x : Exchange) (xs : List Exchange) (s : State) :
    afterAll (x :: xs) s = afterAll xs (after x s) := rfl

theorem afterAll_append (xs ys : List Exchange) (s : State) : afterAll (xs ++ ys) s = afterAll ys (afterAll xs s) :=
  List.foldl_append

/-- What an exchange leaves alone, a list of them leaves alone. -/
theorem afterAll_field {α : Type} {f : State → α} (h : ∀ x s, f (after x s) = f s) (xs : List Exchange) (s : State) :
    f (afterAll xs s) = f s := by
  induction xs generalizing s with
  | nil => rfl
  | cons x xs ih => rw [afterAll_cons, ih, h]

theorem afterAll_wire (xs : List Exchange) (s : State) :
    (afterAll xs s).wire = s.wire ++ xs.flatMap Exchange.trace := by
  induction xs generalizing s with
  | nil => simp
  | cons x xs ih => simp [ih]

/-- Exchanges that bring in what the target has to say use it up, bit for bit. -/
theorem afterAll_swdioIn {xs : List Exchange} {s : State} {more : List Bool}
    (h : s.swdioIn = xs.flatMap Exchange.levels ++ more) : (afterAll xs s).swdioIn = more := by
  induction xs generalizing s with
  | nil => simpa using h
  | cons x xs ih => exact ih (by simp [h])

/-- States that agree on the target's answers to come and the draws agree on them after the same exchanges. -/
theorem afterAll_swdioIn_congr (xs : List Exchange) {s t : State} (hi : s.swdioIn = t.swdioIn)
    (hd : s.draws = t.draws) :
    (afterAll xs s).swdioIn = (afterAll xs t).swdioIn ∧ (afterAll xs s).draws = (afterAll xs t).draws := by
  induction xs generalizing s t with
  | nil => exact ⟨hi, hd⟩
  | cons x xs ih => exact ih (by simp [hi]) (by simp [hi, hd])

theorem afterAll_swclk (xs : List Exchange) {s : State} (h : s.swclk = false) : (afterAll xs s).swclk = false := by
  induction xs generalizing s with
  | nil => exact h
  | cons x xs ih => exact ih (after_swclk x s)

/-- The exchange samples as many levels as its transaction does (R230, R231). -/
def Full (x : Exchange) : Prop := x.levels.length = if x.rnw then 36 else 3

@[simp] theorem full_okRead (p : Bool) (a : RegAddr) (v : Word × Bool) : Full (okRead p a v) := by
  simp [Full, okRead]

@[simp] theorem full_okWrite (p : Bool) (a : RegAddr) (d : Word) : Full (okWrite p a d) := by
  simp [Full, okWrite]

/-- Every exchange is 46 cycles (R236). -/
theorem trace_length {x : Exchange} (h : Full x) : x.trace.length = 46 := by
  unfold Full at h
  unfold Exchange.trace
  split at h
  · rw [if_pos ‹_›, readTrace_length, h]
  · rw [if_neg ‹_›, writeTrace_length, h]

theorem flatMap_trace_length {xs : List Exchange} (h : ∀ x ∈ xs, Full x) :
    (xs.flatMap Exchange.trace).length = 46 * xs.length := by
  induction xs with
  | nil => rfl
  | cons x xs ih =>
    rw [List.flatMap_cons, List.length_append, trace_length (h x (by simp)), ih fun y hy => h y (by simp [hy]),
      List.length_cons]
    omega

end Sys2Proof.Proofs.Exchanges
end

section
/-! PROOF. `connect` as a list of exchanges (R260 to R273): what it ends with and what it leaves, for any target and for
a target that answers as a script has it. -/

namespace Sys2Proof.Proofs.Connect

open Sys2Proof Sys2Proof.Machine Sys2Proof.Proofs.Exchanges

/-! Steps 1 to 3 sample nothing; steps 4 to 10 are exchanges. -/

/-- Steps 1 to 3 (R261 to R263). -/
def prelude (s : State) : State := stepTargetsel (stepPreamble (stepInitialise s))

/-- Steps 4 to 7 (R264 to R267). -/
def bringUpPackets (s : State) : LinkResult :=
  (stepDpidr s).thenStep fun s => (stepAbort s).thenStep fun s => (stepSelectDp s).thenStep stepPowerUp

/-- Steps 4 to 10 (R264 to R270). -/
def exchangeSteps (s : State) : LinkResult :=
  (bringUpPackets s).thenStep fun s =>
  (pollPowerUp pwrupAckTimeout s).thenStep fun s =>
  (stepIdentify s).thenStep stepSelectMemAp

theorem thenStep_assoc (r : LinkResult) (f g : State → LinkResult) :
    (r.thenStep f).thenStep g = r.thenStep fun s => (f s).thenStep g := by
  obtain ⟨c, s⟩ := r
  cases c <;> rfl

theorem bringUp_eq (s : State) : bringUp s = exchangeSteps (prelude s) := by
  simp only [bringUp, exchangeSteps, bringUpPackets, prelude, thenStep_assoc]

/-- What steps 1 to 3 put on the wire. -/
def preludeTrace (targetsel : Word) : List Cycle :=
  preambleBits.map Cycle.driven ++ if targetsel = 0#32 then [] else targetselTrace targetsel

theorem prelude_wire (s : State) : (prelude s).wire = s.wire ++ preludeTrace s.targetsel := by
  unfold prelude stepTargetsel stepPreamble preludeTrace
  split <;> simp_all [swdTargetsel_eq, afterTargetsel]

/-- What steps 1 to 3 do to the fields that the statements about `connect` speak of. -/
theorem prelude_frame (s : State) :
    (prelude s).swclk = false ∧ (prelude s).swclkOutput = true ∧ (prelude s).tarCacheValid = false ∧
    (prelude s).linkFault = s.linkFault ∧ (prelude s).returns = s.returns ∧ (prelude s).apsel = s.apsel ∧
    (prelude s).swdioIn = s.swdioIn ∧ (prelude s).draws = s.draws := by
  unfold prelude stepTargetsel stepPreamble
  split <;> simp [swdTargetsel_eq, afterTargetsel]

/-! Any target: the exchanges depend on nothing but `apsel` and the target's answers to come. -/

/-- The two states show the same `apsel` and the same target. -/
structure SameTarget (s t : State) : Prop where
  apsel : t.apsel = s.apsel
  swdioIn : t.swdioIn = s.swdioIn
  draws : t.draws = s.draws

theorem SameTarget.afterAll {s t : State} (h : SameTarget s t) (xs : List Exchange) :
    SameTarget (afterAll xs s) (afterAll xs t) where
  apsel := by rw [afterAll_field after_apsel, afterAll_field after_apsel, h.apsel]
  swdioIn := (afterAll_swdioIn_congr xs h.swdioIn h.draws).1
  draws := (afterAll_swdioIn_congr xs h.swdioIn h.draws).2

theorem SameTarget.sampledBits {s t : State} (h : SameTarget s t) (n : Nat) :
    Machine.sampledBits n t = Machine.sampledBits n s := sampledBits_congr h.swdioIn h.draws

/-- `f` is a list of exchanges and a cause that are the same from every state with the same target. -/
def IsExchanges (f : State → LinkResult) : Prop :=
  ∀ s, ∃ xs c, ∀ t, SameTarget s t → f t = ⟨c, afterAll xs t⟩

theorem isExchanges_done (c : Option Cause) : IsExchanges fun s => ⟨c, s⟩ := fun _ => ⟨[], c, fun _ _ => rfl⟩

theorem isExchanges_thenStep {f g : State → LinkResult} (hf : IsExchanges f) (hg : IsExchanges g) :
    IsExchanges fun s => (f s).thenStep g := by
  intro s
  obtain ⟨xs, c, hf⟩ := hf s
  cases c with
  | some c => exact ⟨xs, some c, fun t h => by simp only [hf t h]; rfl⟩
  | none =>
    obtain ⟨ys, c, hg⟩ := hg (afterAll xs s)
    refine ⟨xs ++ ys, c, fun t h => ?_⟩
    simp only [hf t h, afterAll_append]
    exact hg _ (h.afterAll xs)

theorem isExchanges_checkRead (p : Bool) (a : RegAddr) {k : Word → State → LinkResult}
    (hk : ∀ d, IsExchanges (k d)) : IsExchanges fun s => checkRead (swdRead p a s) k := by
  intro s
  obtain ⟨ys, c, rest⟩ := hk (dataOf (sampledBits 36 s)) (after (readOf p a (sampledBits 36 s)) s)
  by_cases ok : ackIsOk (ackOf (sampledBits 36 s)) = true
  · refine ⟨readOf p a (sampledBits 36 s) :: ys, c, fun t h => ?_⟩
    simp only [swdRead_eq_after (h.sampledBits 36), checkRead, if_pos ok]
    exact rest _ (h.afterAll [readOf p a (sampledBits 36 s)])
  · refine ⟨[readOf p a (sampledBits 36 s)], some .linkFault, fun t h => ?_⟩
    simp only [swdRead_eq_after (h.sampledBits 36), checkRead, if_neg ok]
    rfl

/-- A checked write, whose word may depend on `apsel`. -/
theorem isExchanges_checkWrite (p : Bool) (a : RegAddr) (data : BitVec 8 → Word) :
    IsExchanges fun s => checkWrite (swdWrite p a (data s.apsel) s) := by
  intro s
  refine ⟨[writeOf p a (data s.apsel) (sampledBits 3 s)],
    if ackIsOk (ackOf (sampledBits 3 s)) then none else some .linkFault, fun t h => ?_⟩
  simp only [swdWrite_eq_after (h.sampledBits 3), h.apsel, checkWrite]
  split <;> rfl

theorem isExchanges_pollPowerUp (n : Nat) : IsExchanges (pollPowerUp n) := by
  induction n with
  | zero => exact isExchanges_done _
  | succ n ih =>
    refine isExchanges_checkRead _ _ fun d => ?_
    by_cases up : poweredUp d = true
    · simp only [up]; exact isExchanges_done none
    · simp only [up]; exact ih

theorem isExchanges_stepIdentify : IsExchanges stepIdentify := by
  refine isExchanges_thenStep (isExchanges_checkWrite _ _ (selectValue apBankIdr)) ?_
  refine isExchanges_checkRead _ _ fun _ => isExchanges_checkRead _ _ fun idr => ?_
  cases isMemAp idr <;> exact isExchanges_done _

theorem isExchanges_bringUpPackets : IsExchanges bringUpPackets :=
  have write (a : RegAddr) (d : Word) : IsExchanges fun s => checkWrite (swdWrite false a d s) :=
    isExchanges_checkWrite false a fun _ => d
  isExchanges_thenStep (isExchanges_checkRead _ _ fun _ => isExchanges_done none) <|
  isExchanges_thenStep (write _ _) <| isExchanges_thenStep (write _ _) (write _ _)

theorem isExchanges_exchangeSteps : IsExchanges exchangeSteps :=
  isExchanges_thenStep isExchanges_bringUpPackets <|
  isExchanges_thenStep (isExchanges_pollPowerUp _) <|
  isExchanges_thenStep isExchanges_stepIdentify (isExchanges_checkWrite _ _ (selectValue apBankCsw))

/-! The end of `connect`. -/

/-- `connect` returns: 0 where no cause has ended the bring-up, else 1 (R270, R322, R329). -/
def finish (c : Option Cause) (s : State) : State :=
  match c with
  | none => connectSucceeded s
  | some c => connectFailed c s

theorem connect_eq_finish (s : State) : connect s = finish (bringUp s).cause (bringUp s).state := by
  unfold connect finish
  split <;> simp_all

@[simp] theorem finish_connectCause (c : Option Cause) (s : State) : (finish c s).connectCause = c := by
  cases c <;> rfl

@[simp] theorem finish_returns (c : Option Cause) (s : State) :
    (finish c s).returns = s.returns ++ [.connect (if c = none then 0 else 1)] := by cases c <;> rfl

@[simp] theorem finish_linkFault (c : Option Cause) (s : State) :
    (finish c s).linkFault = if c = none then none else s.linkFault := by cases c <;> rfl

@[simp] theorem finish_wire (c : Option Cause) (s : State) : (finish c s).wire = s.wire := by cases c <;> rfl

@[simp] theorem finish_swdioIn (c : Option Cause) (s : State) : (finish c s).swdioIn = s.swdioIn := by cases c <;> rfl

@[simp] theorem finish_selectShadow (c : Option Cause) (s : State) : (finish c s).selectShadow = s.selectShadow := by
  cases c <;> rfl

@[simp] theorem finish_tarCacheValid (c : Option Cause) (s : State) :
    (finish c s).tarCacheValid = s.tarCacheValid := by cases c <;> rfl

@[simp] theorem finish_swclk (c : Option Cause) (s : State) : (finish c s).swclk = s.swclk := by cases c <;> rfl

@[simp] theorem finish_swclkOutput (c : Option Cause) (s : State) : (finish c s).swclkOutput = s.swclkOutput := by
  cases c <;> rfl

/-- What `connect` is, in terms of its exchanges: the fields that the statements about it speak of. -/
structure ConnectEnds (s t : State) (c : Option Cause) (xs : List Exchange) : Prop where
  cause : t.connectCause = c
  returns : t.returns = s.returns ++ [.connect (if c = none then 0 else 1)]
  linkFault : t.linkFault = if c = none then none else s.linkFault
  wire : t.wire = s.wire ++ preludeTrace s.targetsel ++ xs.flatMap Exchange.trace
  selectShadow : t.selectShadow = (afterAll xs (prelude s)).selectShadow
  swdioIn : t.swdioIn = (afterAll xs (prelude s)).swdioIn
  tarCacheValid : t.tarCacheValid = false
  swclk : t.swclk = false
  swclkOutput : t.swclkOutput = true

theorem connectEnds_of_bringUp {s : State} {c : Option Cause} {xs : List Exchange}
    (h : bringUp s = ⟨c, afterAll xs (prelude s)⟩) : ConnectEnds s (connect s) c xs := by
  obtain ⟨swclk, swclkOutput, valid, fault, returns, -, -, -⟩ := prelude_frame s
  rw [connect_eq_finish, h]
  exact
    { cause := by simp
      returns := by simp [afterAll_field after_returns, returns]
      linkFault := by simp [afterAll_field after_linkFault, fault]
      wire := by simp [afterAll_wire, prelude_wire]
      selectShadow := by simp
      swdioIn := by simp
      tarCacheValid := by simp [afterAll_field after_tarCacheValid, valid]
      swclk := by simp [afterAll_swclk xs swclk]
      swclkOutput := by simp [afterAll_field after_swclkOutput, swclkOutput] }

/-- Every bring-up is a list of exchanges, the same for every state with the same target. -/
theorem bringUp_exchanges (s : State) :
    ∃ c xs, ∀ t : State, SameTarget s t → bringUp t = ⟨c, afterAll xs (prelude t)⟩ := by
  obtain ⟨xs, c, ends⟩ := isExchanges_exchangeSteps (prelude s)
  refine ⟨c, xs, fun t h => (bringUp_eq t).trans (ends (prelude t) ?_)⟩
  obtain ⟨-, -, -, -, -, apsel, swdioIn, draws⟩ := prelude_frame s
  obtain ⟨-, -, -, -, -, apsel', swdioIn', draws'⟩ := prelude_frame t
  exact ⟨by rw [apsel, apsel', h.apsel], by rw [swdioIn, swdioIn', h.swdioIn], by rw [draws, draws', h.draws]⟩

theorem SameTarget.refl (s : State) : SameTarget s s := ⟨rfl, rfl, rfl⟩

/-- Every `connect` is a list of exchanges. -/
theorem connect_ends (s : State) : ∃ c xs, ConnectEnds s (connect s) c xs := by
  obtain ⟨c, xs, ends⟩ := bringUp_exchanges s
  exact ⟨c, xs, connectEnds_of_bringUp (ends s (.refl s))⟩

/-- Settles O53: the exchanges and the cause are the same from both states, and so is TARGETSEL. -/
theorem connectDependsOnNoEarlierState : Obligations.ConnectDependsOnNoEarlierState := by
  unfold Obligations.ConnectDependsOnNoEarlierState
  intro s t targetsel apsel swdioIn draws
  obtain ⟨c, xs, ends⟩ := bringUp_exchanges s
  have hs := connectEnds_of_bringUp (ends s (.refl s))
  have ht := connectEnds_of_bringUp (ends t ⟨apsel.symm, swdioIn.symm, draws.symm⟩)
  refine ⟨hs.cause.trans ht.cause.symm, ⟨_, hs.returns, ht.returns⟩,
    preludeTrace s.targetsel ++ xs.flatMap Exchange.trace, ?_, ?_⟩
  · rw [hs.wire, List.append_assoc]
  · rw [ht.wire, List.append_assoc, targetsel]

/-! A success has written SELECT last. -/

/-- Where `f` succeeds, SELECT holds the Mem-AP's bank after it. -/
def EndsInSelect (f : State → LinkResult) : Prop :=
  ∀ s, (f s).cause = none → (f s).state.selectShadow = some (selectValue apBankCsw s.apsel)

theorem endsInSelect_thenStep {f g : State → LinkResult} (hf : IsExchanges f) (hg : EndsInSelect g) :
    EndsInSelect fun s => (f s).thenStep g := by
  intro s
  obtain ⟨xs, c, ends⟩ := hf s
  simp only [ends s (.refl s)]
  cases c with
  | some c => nofun
  | none =>
    intro success
    rw [← afterAll_field after_apsel xs s]
    exact hg _ success

theorem endsInSelect_stepSelectMemAp : EndsInSelect stepSelectMemAp := by
  intro s success
  unfold stepSelectMemAp checkWrite at success ⊢
  split at success
  · next ok => rw [if_pos ok, swdWrite_selectShadow, if_pos ⟨ok, rfl, rfl⟩]
  · cases success

theorem endsInSelect_exchangeSteps : EndsInSelect exchangeSteps :=
  endsInSelect_thenStep isExchanges_bringUpPackets <|
  endsInSelect_thenStep (isExchanges_pollPowerUp _) <|
  endsInSelect_thenStep isExchanges_stepIdentify endsInSelect_stepSelectMemAp

/-- After a `connect` that returns 0, SELECT holds the Mem-AP's bank (R34, R270). -/
theorem connect_selectShadow {s : State} (success : (connect s).connectCause = none) :
    (connect s).selectShadow = some (selectValue 0#32 s.apsel) := by
  rw [connect_eq_finish, finish_connectCause, bringUp_eq] at success
  obtain ⟨-, -, -, -, -, apsel, -, -⟩ := prelude_frame s
  rw [connect_eq_finish, finish_selectShadow, bringUp_eq, endsInSelect_exchangeSteps _ success, apsel]
  rfl

theorem step_connect {s : State} {rest : List Event} (idle : s.framer = .idle) (ev : s.events = .connect :: rest) :
    step s = .next (connect { s with events := rest }) :=
  TapEdges.step_of_callWork_done idle ev (by simp only [callWork])

/-- Settles O52: the bring-up is a list of exchanges that touches nothing of the VDTM, and a success ends in SELECT. -/
theorem connectResult : Obligations.ConnectResult := by
  unfold Obligations.ConnectResult
  intro s rest idle ev
  obtain ⟨c, xs, fin⟩ := connect_ends { s with events := rest }
  have frame := sameBeyondWire_connect { s with events := rest }
  refine ⟨_, step_connect idle ev, ?_, fin.tarCacheValid, fin.swclk, fin.swclkOutput, frame.ir, frame.shifter,
    frame.tapState, frame.dmiRdata, frame.tck, frame.tms, frame.tdi, frame.tdo, frame.dmiReadBinding,
    frame.dmiWriteBinding, frame.upcalls⟩
  cases c with
  | some c => exact .inr ⟨fin.returns, fin.linkFault, by rw [fin.cause]; nofun⟩
  | none => exact .inl ⟨fin.returns, fin.linkFault, fin.cause, connect_selectShadow fin.cause⟩

/-! A target that answers as a script has it. -/

/-- Where the target answers as `xs` have it, `f` is these exchanges and ends with `c`. -/
def Ends (apsel : BitVec 8) (f : State → LinkResult) (xs : List Exchange) (c : Option Cause) : Prop :=
  ∀ (s : State) (more : List Bool), s.apsel = apsel → s.swdioIn = xs.flatMap Exchange.levels ++ more →
    f s = ⟨c, afterAll xs s⟩

/-- Where the target answers as `xs` have it, but the `n`-th with an ACK other than OK, `f` ends there (R326). -/
def StopsAtBad (apsel : BitVec 8) (f : State → LinkResult) (xs : List Exchange) : Prop :=
  ∀ (n : Nat) (x : Exchange) (bad : List Bool), xs[n]? = some x → bad.length = x.levels.length →
    bad.take 3 ≠ lsbFirst 0b001#3 → Ends apsel f (xs.take n ++ [{ x with levels := bad }]) (some .linkFault)

theorem ends_done (apsel : BitVec 8) (c : Option Cause) : Ends apsel (fun s => ⟨c, s⟩) [] c := fun _ _ _ _ => rfl

theorem ends_thenStep {apsel : BitVec 8} {f g : State → LinkResult} {xs ys : List Exchange} {c : Option Cause}
    (hf : Ends apsel f xs none) (hg : Ends apsel g ys c) : Ends apsel (fun s => (f s).thenStep g) (xs ++ ys) c := by
  intro s more hs hi
  have hi' : s.swdioIn = xs.flatMap Exchange.levels ++ (ys.flatMap Exchange.levels ++ more) := by simpa using hi
  simp only [hf s _ hs hi', afterAll_append]
  exact hg _ more ((afterAll_field after_apsel xs s).trans hs) (afterAll_swdioIn hi')

theorem ends_thenStep_of_some {apsel : BitVec 8} {f : State → LinkResult} {xs : List Exchange} {c : Cause}
    (hf : Ends apsel f xs (some c)) (g : State → LinkResult) : Ends apsel (fun s => (f s).thenStep g) xs (some c) := by
  intro s more hs hi
  simp only [hf s more hs hi]
  rfl

theorem stopsAtBad_thenStep {apsel : BitVec 8} {f g : State → LinkResult} {xs ys : List Exchange}
    (hf : Ends apsel f xs none) (bf : StopsAtBad apsel f xs) (bg : StopsAtBad apsel g ys) :
    StopsAtBad apsel (fun s => (f s).thenStep g) (xs ++ ys) := by
  intro n x bad hx len wrong
  rcases Nat.lt_or_ge n xs.length with before | behind
  · rw [List.getElem?_append_left before] at hx
    rw [List.take_append_of_le_length before.le]
    exact ends_thenStep_of_some (bf n x bad hx len wrong) g
  · rw [List.getElem?_append_right behind] at hx
    rw [List.take_append, List.take_of_length_le behind, List.append_assoc]
    exact ends_thenStep hf (bg _ x bad hx len wrong)

/-! One checked transaction. -/

theorem ends_checkRead {apsel : BitVec 8} (p : Bool) (a : RegAddr) {levels : List Bool} {ys : List Exchange}
    {c : Option Cause} {k : Word → State → LinkResult} (len : levels.length = 36)
    (ok : levels.take 3 = lsbFirst 0b001#3) (hk : Ends apsel (k (dataOf levels)) ys c) :
    Ends apsel (fun s => checkRead (swdRead p a s) k) (readOf p a levels :: ys) c := by
  intro s more hs hi
  have hi' : s.swdioIn = levels ++ (ys.flatMap Exchange.levels ++ more) := by simpa [readOf] using hi
  have acked := (ackIsOk_ackOf_iff (by omega)).mpr ok
  simp only [swdRead_eq_after (sampledBits_of_append hi' len), checkRead, if_pos acked]
  exact hk _ more (by simp [hs]) (by simp [readOf, hi'])

theorem ends_checkRead_bad (apsel : BitVec 8) (p : Bool) (a : RegAddr) {levels : List Bool}
    (k : Word → State → LinkResult) (len : levels.length = 36) (bad : levels.take 3 ≠ lsbFirst 0b001#3) :
    Ends apsel (fun s => checkRead (swdRead p a s) k) [readOf p a levels] (some .linkFault) := by
  intro s more hs hi
  have hi' : s.swdioIn = levels ++ more := by simpa [readOf] using hi
  have faulted := mt (ackIsOk_ackOf_iff (by omega)).mp bad
  simp only [swdRead_eq_after (sampledBits_of_append hi' len), checkRead, if_neg faulted]
  rfl

theorem ends_checkWrite {apsel : BitVec 8} (p : Bool) (a : RegAddr) (data : BitVec 8 → Word) {levels : List Bool}
    (len : levels.length = 3) :
    Ends apsel (fun s => checkWrite (swdWrite p a (data s.apsel) s)) [writeOf p a (data apsel) levels]
      (if levels.take 3 = lsbFirst 0b001#3 then none else some .linkFault) := by
  intro s more hs hi
  have hi' : s.swdioIn = levels ++ more := by simpa [writeOf] using hi
  simp only [hs, swdWrite_eq_after (sampledBits_of_append hi' len), checkWrite, ackIsOk_ackOf_iff len.ge]
  split <;> rfl

/-! The steps of `connect` follow their part of the script. -/

/-- `f` follows `xs` to its end, and stops at a bad answer on the way. -/
structure Follows (apsel : BitVec 8) (f : State → LinkResult) (xs : List Exchange) (c : Option Cause) : Prop where
  ends : Ends apsel f xs c
  stops : StopsAtBad apsel f xs

theorem follows_done (apsel : BitVec 8) (c : Option Cause) : Follows apsel (fun s => ⟨c, s⟩) [] c :=
  ⟨ends_done apsel c, fun _ _ _ h => by simp at h⟩

theorem follows_thenStep {apsel : BitVec 8} {f g : State → LinkResult} {xs ys : List Exchange} {c : Option Cause}
    (hf : Follows apsel f xs none) (hg : Follows apsel g ys c) :
    Follows apsel (fun s => (f s).thenStep g) (xs ++ ys) c :=
  ⟨ends_thenStep hf.ends hg.ends, stopsAtBad_thenStep hf.ends hf.stops hg.stops⟩

theorem follows_checkWrite (apsel : BitVec 8) (a : RegAddr) (data : BitVec 8 → Word) :
    Follows apsel (fun s => checkWrite (swdWrite false a (data s.apsel) s)) [okWrite false a (data apsel)] none where
  ends := ends_checkWrite false a data (writeAnswer_length _)
  stops n x bad hx len wrong := by
    cases n with
    | zero =>
      cases hx
      have bad_ends := ends_checkWrite (apsel := apsel) false a data (len.trans (writeAnswer_length _))
      rwa [if_neg wrong] at bad_ends
    | succ n => cases hx

theorem okRead_levels_take (p : Bool) (a : RegAddr) (v : Word × Bool) :
    (okRead p a v).levels.take 3 = lsbFirst 0b001#3 := by
  rw [okRead, readAnswer, List.append_assoc, List.take_left' (lsbFirst_length _)]

theorem follows_checkRead {apsel : BitVec 8} (p : Bool) (a : RegAddr) (v : Word × Bool) {ys : List Exchange}
    {c : Option Cause} {k : Word → State → LinkResult} (hk : Follows apsel (k v.1) ys c) :
    Follows apsel (fun s => checkRead (swdRead p a s) k) (okRead p a v :: ys) c where
  ends := ends_checkRead p a (readAnswer_length _ _ _) (okRead_levels_take p a v) (by simpa using hk.ends)
  stops n x bad hx len wrong := by
    cases n with
    | zero =>
      cases hx
      exact ends_checkRead_bad apsel p a k (len.trans (readAnswer_length _ _ _)) wrong
    | succ n =>
      exact ends_checkRead p a (readAnswer_length _ _ _) (okRead_levels_take p a v)
        (by simpa using hk.stops n x bad hx len wrong)

/-- Polls that do not pass, then one that does, within the bound (R268). -/
theorem follows_pollPowerUp (apsel : BitVec 8) {last : Word × Bool} (up : poweredUp last.1 = true) :
    ∀ (polls : List (Word × Bool)) (n : Nat), polls.length < n → (∀ v ∈ polls, poweredUp v.1 = false) →
      Follows apsel (pollPowerUp n) ((polls ++ [last]).map (okRead false aCtrlstat)) none
  | _, 0, h, _ => absurd h (Nat.not_lt_zero _)
  | [], n + 1, _, _ => by
    refine follows_checkRead false aCtrlstat last ?_
    simp only [up]
    exact follows_done apsel none
  | v :: polls, n + 1, h, down => by
    refine follows_checkRead false aCtrlstat v ?_
    simp only [down v (by simp)]
    exact follows_pollPowerUp apsel up polls n (by simpa using h) fun w hw => down w (by simp [hw])

/-- Polls that never pass, as many as the bound allows. -/
theorem ends_pollPowerUp_timeout (apsel : BitVec 8) (polls : List (Word × Bool))
    (down : ∀ v ∈ polls, poweredUp v.1 = false) :
    Ends apsel (pollPowerUp polls.length) (polls.map (okRead false aCtrlstat)) (some .powerUpTimeout) := by
  induction polls with
  | nil => exact ends_done apsel _
  | cons v polls ih =>
    refine ends_checkRead false aCtrlstat (readAnswer_length _ _ _) (okRead_levels_take false aCtrlstat v) ?_
    simp only [dataOf_readAnswer, down v (by simp)]
    exact ih fun w hw => down w (by simp [hw])

/-- The exchanges of steps 4 to 7. -/
def packetScript (dpidr : Word × Bool) : List Exchange :=
  [okRead false aDpidr dpidr, okWrite false aAbort abortClearAll, okWrite false aSelect 0#32,
    okWrite false aCtrlstat powerUpRequest]

/-- The exchanges of step 9. -/
def identifyScript (apsel : BitVec 8) (stale idr : Word × Bool) : List Exchange :=
  [okWrite false aSelect (selectValue apBankIdr apsel), okRead true aIdr stale, okRead false aRdbuf idr]

theorem follows_bringUpPackets (apsel : BitVec 8) (dpidr : Word × Bool) :
    Follows apsel bringUpPackets (packetScript dpidr) none :=
  have write (a : RegAddr) (d : Word) := follows_checkWrite apsel a fun _ => d
  have read := follows_checkRead (k := fun _ t => ⟨none, t⟩) false aDpidr dpidr (follows_done apsel none)
  follows_thenStep (xs := [okRead false aDpidr dpidr]) read <|
  follows_thenStep (xs := [okWrite false aAbort abortClearAll]) (write _ _) <|
  follows_thenStep (xs := [okWrite false aSelect 0#32]) (write _ _) (write _ _)

/-- Step 9 (R269): it passes or ends with WrongAP, by the identification test. -/
theorem follows_stepIdentify (apsel : BitVec 8) (stale idr : Word × Bool) :
    Follows apsel stepIdentify (identifyScript apsel stale idr) (if isMemAp idr.1 then none else some .wrongAp) := by
  refine follows_thenStep (follows_checkWrite apsel aSelect (selectValue apBankIdr)) ?_
  refine follows_checkRead true aIdr stale (follows_checkRead false aRdbuf idr ?_)
  cases isMemAp idr.1 <;> exact follows_done apsel _

/-- `connectScript` in the parts of the steps. -/
theorem connectScript_eq (apsel : BitVec 8) (dpidr : Word × Bool) (polls : List (Word × Bool))
    (stale idr : Word × Bool) :
    connectScript apsel dpidr polls stale idr =
      packetScript dpidr ++ (polls.map (okRead false aCtrlstat) ++
        (identifyScript apsel stale idr ++ [okWrite false aSelect (selectValue apBankCsw apsel)])) := by
  have csw : selectValue apBankCsw apsel = apsel.setWidth 32 <<< 24 := by simp [selectValue, apBankCsw]
  rw [csw, connectScript, List.append_assoc]
  rfl

theorem connectScript_dropLast (apsel : BitVec 8) (dpidr : Word × Bool) (polls : List (Word × Bool))
    (stale idr : Word × Bool) :
    (connectScript apsel dpidr polls stale idr).dropLast =
      packetScript dpidr ++ (polls.map (okRead false aCtrlstat) ++ identifyScript apsel stale idr) := by
  rw [connectScript_eq, ← List.append_assoc, ← List.append_assoc, List.dropLast_concat, List.append_assoc]

/-- Steps 4 to 10 follow `connectScript` (R264 to R270). -/
theorem follows_exchangeSteps (apsel : BitVec 8) (dpidr : Word × Bool) {polls : List (Word × Bool)}
    {last : Word × Bool} (stale : Word × Bool) {idr : Word × Bool} (bound : polls.length < 10000)
    (down : ∀ v ∈ polls, poweredUp v.1 = false) (up : poweredUp last.1 = true) (memAp : isMemAp idr.1 = true) :
    Follows apsel exchangeSteps (connectScript apsel dpidr (polls ++ [last]) stale idr) none := by
  have poll := follows_pollPowerUp apsel up polls pwrupAckTimeout bound down
  have identify := follows_stepIdentify apsel stale idr
  rw [if_pos memAp] at identify
  have select := follows_checkWrite apsel aSelect (selectValue apBankCsw)
  rw [connectScript_eq]
  exact follows_thenStep (follows_bringUpPackets apsel dpidr) (follows_thenStep poll (follows_thenStep identify select))

/-! The statements about a target that answers as a script has it. -/

/-- Where steps 4 to 10 end so for this target, `connect` does. -/
theorem connectEnds_of_ends {s : State} {c : Option Cause} {xs : List Exchange} {more : List Bool}
    (ends : Ends s.apsel exchangeSteps xs c) (hi : s.swdioIn = xs.flatMap Exchange.levels ++ more) :
    ConnectEnds s (connect s) c xs ∧ (connect s).swdioIn = more := by
  obtain ⟨-, -, -, -, -, apsel, swdioIn, -⟩ := prelude_frame s
  have hi' := swdioIn.trans hi
  have fin := connectEnds_of_bringUp ((bringUp_eq s).trans (ends (prelude s) more apsel hi'))
  exact ⟨fin, fin.swdioIn.trans (afterAll_swdioIn hi')⟩

/-- Settles O54: the script up to the bad answer, and that answer, are the whole list of exchanges. -/
theorem connectStopsAtFirstLinkFault : Obligations.ConnectStopsAtFirstLinkFault := by
  unfold Obligations.ConnectStopsAtFirstLinkFault
  intro s rest dpidr last stale idr polls n x bad more idle ev bound down up memAp hx len wrong hi
  have script := follows_exchangeSteps s.apsel dpidr stale bound down up memAp
  obtain ⟨fin, taken⟩ := connectEnds_of_ends (s := { s with events := rest }) (more := more)
    (script.stops n x bad hx len wrong) (by simpa using hi)
  refine ⟨_, step_connect idle ev, fin.returns, fin.cause, fin.linkFault, fin.tarCacheValid, taken, ?_⟩
  rw [fin.wire]
  simp [preludeTrace]

/-- What SELECT holds after the exchanges of step 9. -/
theorem afterAll_identifyScript_selectShadow (apsel : BitVec 8) (stale idr : Word × Bool) (s : State) :
    (afterAll (identifyScript apsel stale idr) s).selectShadow = some (selectValue apBankIdr apsel) := by
  simp [identifyScript, after, okWrite, okRead, noteWrite_selectShadow, ackIsOk, ackValueOk, tookBits]

/-- Settles O56: step 9 by itself and then the whole script, each with the test failing at its last exchange. -/
theorem wrongApEndsIdentification : Obligations.WrongApEndsIdentification := by
  unfold Obligations.WrongApEndsIdentification
  refine ⟨fun s stale idr more wrong hi => ?_, ?_⟩
  · have identify := (follows_stepIdentify s.apsel stale idr).ends s more rfl
      (by simpa [identifyScript, okWrite, okRead] using hi)
    rw [if_neg (by simp [wrong])] at identify
    rw [identify]
    refine ⟨rfl, afterAll_identifyScript_selectShadow _ _ _ _, ?_⟩
    simp [identifyScript, okWrite, okRead, Exchange.trace, aSelect, aIdr, aRdbuf, apBankIdr]
  · intro s rest dpidr last stale idr polls more idle ev bound down up wrong hi
    have identify := (follows_stepIdentify s.apsel stale idr).ends
    rw [if_neg (by simp [wrong])] at identify
    have poll := (follows_pollPowerUp s.apsel up polls pwrupAckTimeout bound down).ends
    have all := ends_thenStep (follows_bringUpPackets s.apsel dpidr).ends
      (ends_thenStep poll (ends_thenStep_of_some identify stepSelectMemAp))
    rw [connectScript_dropLast] at hi ⊢
    obtain ⟨fin, taken⟩ := connectEnds_of_ends (s := { s with events := rest }) (more := more) all hi
    refine ⟨_, step_connect idle ev, fin.returns, fin.cause, fin.linkFault, fin.tarCacheValid, taken, ?_, ?_⟩
    · rw [fin.selectShadow, afterAll_append, afterAll_append, afterAll_identifyScript_selectShadow]
      rfl
    · rw [fin.wire, preludeTrace, ← List.append_assoc]

theorem preludeTrace_length (targetsel : Word) :
    (preludeTrace targetsel).length = 276 + if targetsel = 0#32 then 0 else 46 := by
  unfold preludeTrace
  split <;> simp

/-- Settles O55: the script ends with the last of the polls that the bound allows. -/
theorem powerUpPollTimesOut : Obligations.PowerUpPollTimesOut := by
  unfold Obligations.PowerUpPollTimesOut
  intro s rest dpidr p polls more idle ev bound down hi
  have poll := ends_pollPowerUp_timeout s.apsel polls down
  rw [bound] at poll
  have all := ends_thenStep (follows_bringUpPackets s.apsel (dpidr, p)).ends (ends_thenStep_of_some poll
    fun s => (stepIdentify s).thenStep stepSelectMemAp)
  obtain ⟨fin, taken⟩ := connectEnds_of_ends (s := { s with events := rest }) (more := more) all
    (by simpa [packetScript, okWrite, okRead, List.flatMap_map] using hi)
  refine ⟨_, step_connect idle ev, fin.returns, fin.cause, taken, ?_⟩
  have full : ∀ x ∈ packetScript (dpidr, p) ++ polls.map (okRead false aCtrlstat), Full x := by
    simp [packetScript, or_imp, forall_and]
  have lengths := flatMap_trace_length full
  rw [fin.wire, List.length_append, List.length_append, preludeTrace_length, lengths]
  simp [packetScript, bound]
  omega

/-- Settles O51: the whole script is followed. -/
theorem connectSucceeds : Obligations.ConnectSucceeds := by
  unfold Obligations.ConnectSucceeds
  intro s rest dpidr stale idr last p q r u polls more idle ev bound down up memAp hi
  have script := follows_exchangeSteps s.apsel (dpidr, p) (stale, q) (idr := (idr, r)) (last := (last, u)) bound down
    up memAp
  obtain ⟨fin, taken⟩ := connectEnds_of_ends (s := { s with events := rest }) (more := more) script.ends
    (by simpa [connectScript, okRead, okWrite, List.flatMap_map] using hi)
  refine ⟨_, step_connect idle ev, fin.returns, fin.linkFault, fin.tarCacheValid, ?_, taken, fin.swclk, ?_, ?_⟩
  · exact connect_selectShadow fin.cause
  · rw [fin.wire]
    simp [preludeTrace, connectScript, okRead, okWrite, Exchange.trace, List.flatMap_map]
  · have full : ∀ x ∈ connectScript s.apsel (dpidr, p) (polls ++ [(last, u)]) (stale, q) (idr, r), Full x := by
      simp [connectScript, or_imp, forall_and]
    have lengths := flatMap_trace_length full
    rw [fin.wire, List.length_append, List.length_append, preludeTrace_length, lengths]
    simp [connectScript]
    omega

end Sys2Proof.Proofs.Connect
end

section
/-! PROOF. The TAR cache: its invariant, and what makes a valid cache invalid (R31, R64, R80, R301). -/

namespace Sys2Proof.Proofs.TarCache

open Sys2Proof Sys2Proof.Machine Sys2Proof.Proofs.Steps Sys2Proof.Proofs.Vdtm

/-! What leaves the cache and the record of TAR alone. -/

/-- `t` has the TAR cache, its flag and the record of TAR of `s`. -/
structure SameTar (s t : State) : Prop where
  cache : t.tarCache = s.tarCache
  valid : t.tarCacheValid = s.tarCacheValid
  shadow : t.tarShadow = s.tarShadow

theorem SameTar.trans {s t u : State} (h : SameTar s t) (g : SameTar t u) : SameTar s u where
  cache := g.cache.trans h.cache
  valid := g.valid.trans h.valid
  shadow := g.shadow.trans h.shadow

theorem sameTar_swdRead (p : Bool) (a : RegAddr) (s : State) : SameTar s (swdRead p a s).state := by
  constructor <;> simp

/-- A write elsewhere than to TAR. -/
theorem sameTar_swdWrite {p : Bool} {a : RegAddr} (other : ¬ (p = true ∧ a = aTar)) (d : Word) (s : State) :
    SameTar s (swdWrite p a d s).state where
  cache := swdWrite_tarCache p a d s
  valid := swdWrite_tarCacheValid p a d s
  shadow := by rw [swdWrite_tarShadow, if_neg fun h => other h.2]

theorem sameTar_failRead (k : Ack) (s : State) : SameTar s (failRead k s).2 := ⟨rfl, rfl, rfl⟩

theorem sameTar_accessFault (k : Ack) (s : State) : SameTar s (accessFault k s) := ⟨rfl, rfl, rfl⟩

/-- After `EnsureTar`, a read leaves the cache alone. -/
theorem sameTar_dmiReadAccess (addr : DmiAddr) (s : State) :
    SameTar (ensureTar (byteAddr addr) s).state (dmiReadAccess addr s).2 := by
  rcases dmiReadAccess_cases addr s with ⟨_, h⟩ | ⟨_, _, h⟩ | ⟨_, _, _, h⟩ | ⟨_, _, _, h⟩ <;> rw [h]
  · exact sameTar_failRead _ _
  · exact (sameTar_swdRead _ _ _).trans (sameTar_failRead _ _)
  · exact (sameTar_swdRead _ _ _).trans ((sameTar_swdRead _ _ _).trans (sameTar_failRead _ _))
  · exact (sameTar_swdRead _ _ _).trans (sameTar_swdRead _ _ _)

/-- After `EnsureTar`, a write leaves the cache alone. -/
theorem sameTar_dmiWriteAccess (addr : DmiAddr) (data : Word) (s : State) :
    SameTar (ensureTar (byteAddr addr) s).state (dmiWriteAccess addr data s) := by
  have drw : ∀ t, SameTar t (swdWrite true aDrw data t).state := sameTar_swdWrite (by decide) data
  rcases dmiWriteAccess_cases addr data s with ⟨_, h⟩ | ⟨_, _, h⟩ | ⟨_, _, h⟩ <;> rw [h]
  · exact sameTar_accessFault _ _
  · exact (drw _).trans (sameTar_accessFault _ _)
  · exact drw _

/-! The invariant of the cache, without the part about the calls to come. -/

/-- A valid cache holds the record of TAR, which is the byte address of a DMI address (R31, R64). -/
def TarOk (s : State) : Prop :=
  s.tarCacheValid = true → s.tarShadow = some s.tarCache ∧ ∃ addr : DmiAddr, s.tarCache = byteAddr addr

theorem SameTar.tarOk {s t : State} (h : SameTar s t) (ok : TarOk s) : TarOk t := by
  unfold TarOk
  rw [h.cache, h.valid, h.shadow]
  exact ok

theorem tarOk_ensureTar (addr : DmiAddr) {s : State} (ok : TarOk s) : TarOk (ensureTar (byteAddr addr) s).state := by
  rcases ensureTar_cases (byteAddr addr) s with ⟨_, h⟩ | ⟨_, acked, h⟩ | ⟨_, _, h⟩ <;> rw [h]
  · exact ok
  · exact fun _ => ⟨by simp [swdWrite_tarShadow, acked], addr, rfl⟩
  · exact nofun

theorem tarOk_dmiReadAccess (addr : DmiAddr) {s : State} (ok : TarOk s) : TarOk (dmiReadAccess addr s).2 :=
  (sameTar_dmiReadAccess addr s).tarOk (tarOk_ensureTar addr ok)

theorem tarOk_dmiWriteAccess (addr : DmiAddr) (data : Word) {s : State} (ok : TarOk s) :
    TarOk (dmiWriteAccess addr data s) :=
  (sameTar_dmiWriteAccess addr data s).tarOk (tarOk_ensureTar addr ok)

/-! What a rising edge does to the cache: nothing, or what a dispatched access does. -/

/-- The action of a rising edge leaves the cache alone, or is a `DmiRead` or a `DmiWrite` of the bridge. -/
theorem exec_tapInstr_tar {s u : State} {rest : List Event}
    (action : exec (tapInstr s) { s with events := rest } = .next u) :
    SameTar s u ∨ s.tapState = .sUpdateDr ∧ s.ir = irDmi ∧
      ((dmiOp s.shifter = 1#2 ∧ s.dmiReadBinding = .bridge ∧ ∃ v,
          u = { (dmiReadAccess (dmiAddr s.shifter)
            (logUpcall (.read (dmiAddr s.shifter)) { s with events := rest })).2 with dmiRdata := v }) ∨
        (dmiOp s.shifter = 2#2 ∧ s.dmiWriteBinding = .bridge ∧
          u = dmiWriteAccess (dmiAddr s.shifter) (dmiData s.shifter)
            (logUpcall (.write (dmiAddr s.shifter) (dmiData s.shifter)) { s with events := rest }))) := by
  by_cases dispatch : s.tapState = .sUpdateDr ∧ s.ir = irDmi
  · rw [tapInstr_of_dispatch dispatch] at action
    obtain ⟨up, dmi⟩ := dispatch
    unfold decodeDmi at action
    split_ifs at action with op0 op1 op2
    · cases action; exact .inl ⟨rfl, rfl, rfl⟩
    · obtain ⟨-, rfl⟩ | ⟨bound, rfl⟩ | ⟨-, us, n, v, rfl⟩ := callDmiRead_cases action
      · exact .inl ⟨rfl, rfl, rfl⟩
      · exact .inr ⟨up, dmi, .inl ⟨op1, bound, _, rfl⟩⟩
      · exact .inl ⟨rfl, rfl, rfl⟩
    · obtain ⟨-, rfl⟩ | ⟨bound, rfl⟩ | ⟨-, us, rfl⟩ := callDmiWrite_cases action
      · exact .inl ⟨rfl, rfl, rfl⟩
      · exact .inr ⟨up, dmi, .inr ⟨op2, bound, rfl⟩⟩
      · exact .inl ⟨rfl, rfl, rfl⟩
    · cases action; exact .inl ⟨rfl, rfl, rfl⟩
  · rw [tapInstr_of_quiet dispatch] at action
    cases (TapActions.exec_decodeIr (s := { s with events := rest }) dispatch).symm.trans action
    exact .inl ⟨rfl, rfl, rfl⟩

theorem exec_tapInstr_framer_events {s u : State} {rest : List Event}
    (action : exec (tapInstr s) { s with events := rest } = .next u) : u.framer = s.framer ∧ u.events = rest := by
  by_cases dispatch : s.tapState = .sUpdateDr ∧ s.ir = irDmi
  · rw [tapInstr_of_dispatch dispatch] at action
    obtain ⟨frame, -⟩ := exec_decodeDmi_frame action
    exact ⟨frame.framer, frame.events⟩
  · rw [tapInstr_of_quiet dispatch] at action
    cases (TapActions.exec_decodeIr (s := { s with events := rest }) dispatch).symm.trans action
    exact ⟨rfl, rfl⟩

theorem tarOk_rising {s u : State} {rest : List Event}
    (action : exec (tapInstr s) { s with events := rest } = .next u) (ok : TarOk s) : TarOk u := by
  rcases exec_tapInstr_tar action with same | ⟨-, -, ⟨-, -, v, rfl⟩ | ⟨-, -, rfl⟩⟩
  · exact same.tarOk ok
  · exact tarOk_dmiReadAccess (dmiAddr s.shifter) (s := logUpcall _ { s with events := rest }) ok
  · exact tarOk_dmiWriteAccess (dmiAddr s.shifter) (dmiData s.shifter) (s := logUpcall _ { s with events := rest }) ok

theorem connect_tarCacheValid (s : State) : (connect s).tarCacheValid = false := by
  obtain ⟨c, xs, ends⟩ := Connect.connect_ends s
  exact ends.tarCacheValid

/-- Settles O58. A block call leaves the framer at rest and the calls behind it; the cache follows the record of TAR in
every access, and `connect` makes it invalid. -/
theorem stepKeepsTarInv : Obligations.StepKeepsTarInv := by
  unfold Obligations.StepKeepsTarInv
  intro s t inv h
  obtain ⟨atRest, blockCalls, isTar, isAddr⟩ := inv
  have ok : TarOk s := fun valid => ⟨isTar valid, isAddr valid⟩
  have keep {e : Event} {rest : List Event} {u : State} (ev : s.events = e :: rest) (framer : u.framer = .idle)
      (events : u.events = rest) (tar : TarOk u) : TarInv u :=
    ⟨framer, fun e' mem => blockCalls e' (by rw [ev, ← events]; exact List.mem_cons_of_mem e mem),
      fun valid => (tar valid).1, fun valid => (tar valid).2⟩
  have framer_call {e : Event} {rest : List Event} (ev : s.events = e :: rest) (call : e.isBlockCall = false) :
      TarInv t := by
    rw [blockCalls e (by simp [ev])] at call
    cases call
  cases stepTo_of_step h with
  | rest => exact ⟨atRest, blockCalls, isTar, isAddr⟩
  | ack due => exact absurd atRest due
  | setTms _ ev | setTdi _ ev | sameTck _ ev | falling _ ev | getTdo _ ev | bindRead _ ev | bindWrite _ ev =>
    exact keep ev atRest rfl ok
  | rising _ ev low action =>
    obtain ⟨framer, events⟩ := exec_tapInstr_framer_events action
    exact keep ev (framer.trans atRest) events (tarOk_rising action ok : TarOk _)
  | @connect rest _ ev =>
    have frame := sameBeyondWire_connect { s with events := rest }
    refine keep ev (frame.framer.trans atRest) frame.events fun valid => ?_
    rw [connect_tarCacheValid] at valid
    cases valid
  | @dmiRead addr rest _ ev =>
    have frame := sameBeyondWire_dmiReadAccess addr { s with events := rest }
    exact keep ev (frame.framer.trans atRest) frame.events (tarOk_dmiReadAccess addr (s := { s with events := rest }) ok)
  | @dmiWrite addr data rest _ ev =>
    have frame := sameBeyondWire_dmiWriteAccess addr data { s with events := rest }
    exact keep ev (frame.framer.trans atRest) frame.events
      (tarOk_dmiWriteAccess addr data (s := { s with events := rest }) ok)
  | header _ ev | readPacket _ ev | writePacket _ ev => exact framer_call ev rfl
  | targetsel _ ev call => exact framer_call ev call

/-! A valid cache that becomes invalid. -/

/-- What an access leaves where its TAR write fails: that write alone on the wire, and its ACK as the mark. -/
structure TarWriteFailed (addr : DmiAddr) (s t : State) (k : Ack) : Prop where
  bad : k ≠ 0b001#3
  mark : t.linkFault = some k
  wire : t.wire = s.wire ++ writeTrace true 0b01#2 (byteAddr addr) (writeAnswer k)

/-- `EnsureTar` leaves the cache valid exactly where it hands back OK; else the failed write is all it has sent. -/
theorem ensureTar_valid (b : Word) (s : State) :
    ((ensureTar b s).state.tarCacheValid = true ∧ ackIsOk (ensureTar b s).ack = true) ∨
    ((ensureTar b s).ack ≠ 0b001#3 ∧
      (ensureTar b s).state.wire = s.wire ++ writeTrace true 0b01#2 b (writeAnswer (ensureTar b s).ack)) := by
  rcases ensureTar_cases b s with ⟨hit, h⟩ | ⟨_, acked, h⟩ | ⟨_, failed, h⟩ <;> rw [h]
  · exact .inl ⟨(Bool.and_eq_true_iff.mp hit).1, rfl⟩
  · exact .inl ⟨rfl, acked⟩
  · refine .inr ⟨fun ok => ?_, ?_⟩
    · rw [show (swdWrite true aTar b s).ack = 0b001#3 from ok] at failed
      cases failed
    · rw [Packets.swdWrite_ack, writeAnswer, Exchanges.lsbFirst_packLsb (sampledBits_length 3 s)]
      exact Packets.swdWrite_wire true aTar b s

theorem dmiReadAccess_invalidates {addr : DmiAddr} {s : State}
    (invalid : (dmiReadAccess addr s).2.tarCacheValid = false) :
    ∃ k, TarWriteFailed addr s (dmiReadAccess addr s).2 k := by
  rw [(sameTar_dmiReadAccess addr s).valid] at invalid
  rcases ensureTar_valid (byteAddr addr) s with ⟨valid, -⟩ | ⟨bad, wire⟩
  · rw [valid] at invalid; cases invalid
  · have failed : ackIsOk (ensureTar (byteAddr addr) s).ack = false := by simpa [ackIsOk, ackValueOk] using bad
    have fails : dmiReadAccess addr s =
        failRead (ensureTar (byteAddr addr) s).ack (ensureTar (byteAddr addr) s).state := by
      simp only [dmiReadAccess, failed]; rfl
    rw [fails]
    exact ⟨_, bad, rfl, wire⟩

theorem dmiWriteAccess_invalidates {addr : DmiAddr} {data : Word} {s : State}
    (invalid : (dmiWriteAccess addr data s).tarCacheValid = false) :
    ∃ k, TarWriteFailed addr s (dmiWriteAccess addr data s) k := by
  rw [(sameTar_dmiWriteAccess addr data s).valid] at invalid
  rcases ensureTar_valid (byteAddr addr) s with ⟨valid, -⟩ | ⟨bad, wire⟩
  · rw [valid] at invalid; cases invalid
  · have failed : ackIsOk (ensureTar (byteAddr addr) s).ack = false := by simpa [ackIsOk, ackValueOk] using bad
    have fails : dmiWriteAccess addr data s =
        accessFault (ensureTar (byteAddr addr) s).ack (ensureTar (byteAddr addr) s).state := by
      simp only [dmiWriteAccess, failed]; rfl
    rw [fails]
    exact ⟨_, bad, rfl, wire⟩

theorem receiveAck_tarCacheValid (k : Ack) (s : State) : (receiveAck k s).tarCacheValid = s.tarCacheValid := by
  unfold receiveAck
  split
  · rfl
  · rw [readDataPhase_eq]; rfl
  · rw [writeDataPhase_eq]; simp

/-- Settles O59: of all the ways of a step, only `connect` and the three that make an access can clear the flag. -/
theorem cacheInvalidatedByConnectOrFault : Obligations.CacheInvalidatedByConnectOrFault := by
  unfold Obligations.CacheInvalidatedByConnectOrFault
  intro s t h valid invalid
  have kept (same : t.tarCacheValid = s.tarCacheValid) {P : Prop} : P := by
    rw [same, valid] at invalid
    cases invalid
  cases stepTo_of_step h with
  | rest | setTms | setTdi | sameTck | falling | getTdo | bindRead | bindWrite => exact kept rfl
  | ack => exact kept (by rw [receiveAck_tarCacheValid, ackPhase_snd]; rfl)
  | rising idle ev low action =>
    rcases exec_tapInstr_tar action with same | ⟨up, dmi, ⟨op, bound, v, rfl⟩ | ⟨op, bound, rfl⟩⟩
    · exact kept same.valid
    · obtain ⟨k, bad, mark, wire⟩ := dmiReadAccess_invalidates invalid
      exact ⟨idle, .inr ⟨_, k, bad, mark, wire, .inr (.inr ⟨by rw [ev]; rfl, low, up, dmi, rfl, .inl ⟨op, bound⟩⟩)⟩⟩
    · obtain ⟨k, bad, mark, wire⟩ := dmiWriteAccess_invalidates invalid
      exact ⟨idle, .inr ⟨_, k, bad, mark, wire, .inr (.inr ⟨by rw [ev]; rfl, low, up, dmi, rfl, .inr ⟨op, bound⟩⟩)⟩⟩
  | connect idle ev => exact ⟨idle, .inl (by rw [ev]; rfl)⟩
  | dmiRead idle ev =>
    obtain ⟨k, bad, mark, wire⟩ := dmiReadAccess_invalidates invalid
    exact ⟨idle, .inr ⟨_, k, bad, mark, wire, .inl (by rw [ev]; rfl)⟩⟩
  | dmiWrite idle ev =>
    obtain ⟨k, bad, mark, wire⟩ := dmiWriteAccess_invalidates invalid
    exact ⟨idle, .inr ⟨_, k, bad, mark, wire, .inr (.inl ⟨_, by rw [ev]; rfl⟩)⟩⟩
  | header => exact kept (by rw [sendHeader, requestPhase_eq])
  | targetsel => exact kept (by rw [swdTargetsel_eq]; rfl)
  | readPacket => exact kept (by simp)
  | writePacket => exact kept (by simp)

end Sys2Proof.Proofs.TarCache
end

section
/-! PROOF. The packet framer (R93, R225, R226, R230, R231): headers, ACKs and packets on the wire. -/

namespace Sys2Proof.Proofs.Framer

open Sys2Proof Sys2Proof.Machine Sys2Proof.Proofs.Steps Sys2Proof.Proofs.Exchanges

theorem ackStatus_eq (k : Ack) : ackStatus k = if k = 0b001#3 then .ok else .notOk k := by
  simp [ackStatus, ackIsOk, ackValueOk]

/-- The two records of an accepted write, field by field. -/
theorem noteWrite_eq (p : Bool) (a : RegAddr) (d : Word) (k : Ack) (s : State) :
    noteWrite p a d k s =
      { s with
        selectShadow := if k = 0b001#3 ∧ p = false ∧ a = 0b10#2 then some d else s.selectShadow
        tarShadow := if k = 0b001#3 ∧ p = true ∧ a = 0b01#2 then some d else s.tarShadow } := by
  unfold noteWrite
  by_cases ok : k = 0b001#3
  · cases p <;> simp [ok, ackIsOk, ackValueOk, aSelect, aTar] <;> split <;> rfl
  · simp [ok, ackIsOk, ackValueOk]

/-! Headers. -/

theorem sendHeader_eq (p r : Bool) (a : RegAddr) (s : State) :
    sendHeader p r a s =
      { s with
        swclk := false, swdioDriven := false, swdioLevel := true, framer := if r then .reading else .writing p a
        wire := s.wire ++ (lsbFirst (header p r a)).map Cycle.driven ++ [Cycle.released] } := by
  simp [sendHeader, requestPhase_eq, headerTrace]

/-- Settles O42: each instruction is the row of its register, and each byte that row's header. -/
theorem headersOnTheWire : Obligations.HeadersOnTheWire := by
  unfold Obligations.HeadersOnTheWire
  have row {i : Instr} {h : HeaderByte} (p r : Bool) (a : RegAddr) (s : State) (hi : i = headerRow p r a)
      (hh : h = header p r a) (ack : ¬ (p = false ∧ r = false ∧ a = 0b11#2)) :
      exec i s = .next
        { s with
          swclk := false, swdioDriven := false, swdioLevel := true, framer := if r then .reading else .writing p a
          wire := s.wire ++ (lsbFirst h).map Cycle.driven ++ [Cycle.released] } := by
    rw [hi, hh, exec_headerRow, if_neg ack, sendHeader_eq]
  refine ⟨fun s r mem => ?_, fun s r mem => ?_⟩
  · have read : r.1 = headerRow (r.2.getLsbD 1) true (r.2.extractLsb' 3 2) ∧
        r.2 = header (r.2.getLsbD 1) true (r.2.extractLsb' 3 2) := by revert r; decide
    exact row _ true _ s read.1 read.2 (by simp)
  · have write : r.1 = headerRow r.2.2.1 false r.2.2.2 ∧ r.2.1 = header r.2.2.1 false r.2.2.2 ∧
        ¬ (r.2.2.1 = false ∧ false = false ∧ r.2.2.2 = 0b11#2) := by revert r; decide
    exact row _ false _ s write.1 write.2.1 write.2.2

/-! Packets. -/

/-- Settles O44: the exchange of a read, with the ACK and the data taken from its levels. -/
theorem readPacketOnTheWire : Obligations.ReadPacketOnTheWire := by
  unfold Obligations.ReadPacketOnTheWire
  intro s p a k d par levels
  rw [exec_swdReadPacket, swdRead_eq_after levels, ackOf_readAnswer, dataOf_readAnswer]
  simp [after, readOf, answer, Exchange.trace, readTrace, headerTrace, readAnswer, tookBits, ackStatus_eq]

/-- Settles O45: the exchange of a write, with the ACK taken from its levels. -/
theorem writePacketOnTheWire : Obligations.WritePacketOnTheWire := by
  unfold Obligations.WritePacketOnTheWire
  intro s p a d k levels
  rw [exec_swdWritePacket, swdWrite_eq_after levels]
  simp only [after, writeOf, ackOf_writeAnswer, noteWrite_eq]
  simp [answer, Exchange.trace, writeTrace, headerTrace, dataTrace, writeAnswer, tookBits, ackStatus_eq]

/-- Settles O46: whatever its value, an ACK is followed by the data phase that the framer's place asks for. -/
theorem ackEndsTheTransaction : Obligations.AckEndsTheTransaction := by
  unfold Obligations.AckEndsTheTransaction
  intro s row mem
  have decoded : row.1 = decodeAck row.2 := by revert row; decide
  rw [decoded, exec_decodeAck]
  refine ⟨fun reading d par levels => ?_, fun p a writing => ?_, fun idle => ?_⟩
  · simp only [receiveAck, reading, readDataPhase_eq, levels, List.take_left' (lsbFirst_length d), packLsb_lsbFirst]
    simp [answer, tookBits, ackStatus_eq]
  · simp only [receiveAck, writing, writeDataPhase_eq, noteWrite_eq]
    simp [answer, dataTrace, ackStatus_eq]
  · simp [receiveAck, idle, answer, ackStatus_eq]

/-- The cycles of a read up to its parity bit. -/
def untilParity (p : Bool) (a : RegAddr) (k : Ack) (d : Word) : List Cycle :=
  (lsbFirst (header p true a)).map Cycle.driven ++ [Cycle.released] ++ (lsbFirst k).map Cycle.sampled
    ++ (lsbFirst d).map Cycle.sampled

/-- Settles O48: the parity bit is on the wire as sampled, and nothing else of the read depends on it. -/
theorem readParityIsNotChecked : Obligations.ReadParityIsNotChecked := by
  unfold Obligations.ReadParityIsNotChecked
  intro s t u p a k d rest ht hu
  have read (par : Bool) := readPacketOnTheWire { s with swdioIn := readAnswer k d par ++ rest } p a k d par
    (sampledBits_of_append rfl (readAnswer_length k d par))
  cases ht.symm.trans (read _)
  cases hu.symm.trans (read _)
  refine ⟨rfl, ?_, s.wire ++ untilParity p a k d, ?_, ?_, ?_⟩
  · simp
  · simp [untilParity]
  · simp [untilParity]
  · simp [untilParity]

/-! A header and its ACK as two steps. -/

/-- A header by itself and the ACK step after it. -/
theorem run_header {s : State} {p r : Bool} {a : RegAddr} {data : Word} {rest : List Event} (idle : s.framer = .idle)
    (ev : s.events = .swdHeader (header p r a) data :: rest) (ack : ¬ (p = false ∧ r = false ∧ a = 0b11#2)) :
    run 2 s =
      let k := ackPhase (sendHeader p r a { s with events := rest, swdData := data })
      .next (receiveAck k.1 k.2) := by
  have header : step s = .next (sendHeader p r a { s with events := rest, swdData := data }) := by
    simp only [step, nextWork_of_events idle ev, callWork, DecodeEncode.decodeHeader_header, framerWork]
    rw [exec_headerRow, if_neg ack]
  have due : (sendHeader p r a { s with events := rest, swdData := data }).framer ≠ .idle := by
    cases r <;> simp [sendHeader]
  rw [run_succ_of_next header, run_succ_of_next (step_ack due), run_zero]

/-- The framer's place is no part of what the ACK cycles do. -/
theorem ackPhase_with_framer (f : Framer) (s : State) :
    ackPhase { s with framer := f } = ((ackPhase s).1, { (ackPhase s).2 with framer := f }) := by
  refine Prod.ext ?_ ?_
  · rw [ackPhase_fst, ackPhase_fst]; rfl
  · rw [ackPhase_snd, ackPhase_snd]; rfl

theorem readDataPhase_with_framer (f : Framer) (s : State) :
    readDataPhase { s with framer := f } = ((readDataPhase s).1, { (readDataPhase s).2 with framer := f }) := by
  rw [readDataPhase_eq, readDataPhase_eq]; rfl

theorem writeDataPhase_with_framer (d : Word) (f : Framer) (s : State) :
    writeDataPhase d { s with framer := f } = { writeDataPhase d s with framer := f } := by
  rw [writeDataPhase_eq, writeDataPhase_eq]

theorem noteWrite_with_framer (p : Bool) (a : RegAddr) (d : Word) (k : Ack) (f : Framer) (s : State) :
    noteWrite p a d k { s with framer := f } = { noteWrite p a d k s with framer := f } := by
  rw [noteWrite_eq, noteWrite_eq]

theorem with_framer_idle {s : State} (idle : s.framer = .idle) : { s with framer := .idle } = s := by
  rw [← idle]

/-- With a read open, the ACK is followed by the rest of the read. -/
theorem receiveAck_reading (k : Ack) {s : State} (idle : s.framer = .idle) :
    receiveAck k { s with framer := .reading } =
      answer (.swdRead (ackStatus k) (readDataPhase s).1) (readDataPhase s).2 := by
  have idle' : (readDataPhase s).2.framer = .idle := by rw [readDataPhase_eq]; exact idle
  simp only [receiveAck, readDataPhase_with_framer]
  exact congrArg _ (with_framer_idle idle')

/-- With a write open, the ACK is followed by the rest of the write, with the word of the header's call. -/
theorem receiveAck_writing (p : Bool) (a : RegAddr) (k : Ack) {s : State} (idle : s.framer = .idle) :
    receiveAck k { s with framer := .writing p a } =
      answer (.swdWrite (ackStatus k)) (noteWrite p a s.swdData k (writeDataPhase s.swdData s)) := by
  have idle' : (noteWrite p a s.swdData k (writeDataPhase s.swdData s)).framer = .idle := by
    rw [noteWrite_framer, writeDataPhase_eq]; exact idle
  simp only [receiveAck, writeDataPhase_with_framer, noteWrite_with_framer]
  exact congrArg _ (with_framer_idle idle')

/-- The phases of a transaction up to its ACK leave the framer's place and its word alone. -/
theorem ackPhase_requestPhase_frame (p r : Bool) (a : RegAddr) (s : State) :
    (ackPhase (requestPhase p r a s)).2.framer = s.framer ∧
    (ackPhase (requestPhase p r a s)).2.swdData = s.swdData := by
  rw [ackPhase_requestPhase]; exact ⟨rfl, rfl⟩

theorem ackPhase_sendHeader (p r : Bool) (a : RegAddr) (s : State) :
    ackPhase (sendHeader p r a s) =
      ((ackPhase (requestPhase p r a s)).1,
        { (ackPhase (requestPhase p r a s)).2 with framer := if r then .reading else .writing p a }) :=
  ackPhase_with_framer _ _

/-- Settles O47: the two steps go through the same phases as the packet. -/
theorem headerThenAckIsThePacket : Obligations.HeaderThenAckIsThePacket := by
  unfold Obligations.HeaderThenAckIsThePacket
  intro s p a data rest idle
  refine ⟨fun ev => ?_, fun ev notTargetsel => ?_⟩
  · obtain ⟨framer, -⟩ := ackPhase_requestPhase_frame p true a { s with events := rest, swdData := data }
    rw [run_header idle ev (by simp), exec_swdReadPacket, ackPhase_sendHeader]
    exact congrArg _ (receiveAck_reading _ (framer.trans idle))
  · obtain ⟨framer, word⟩ := ackPhase_requestPhase_frame p false a { s with events := rest, swdData := data }
    rw [run_header idle ev fun h => notTargetsel ⟨h.1, h.2.2⟩, exec_swdWritePacket, ackPhase_sendHeader]
    refine congrArg _ ((receiveAck_writing p a _ (framer.trans idle)).trans ?_)
    rw [word]
    rfl

end Sys2Proof.Proofs.Framer
end

section
/-! PROOF. The DMI operations: upcalls to the environment (R176, R202, R203), and accesses over SWD, cycle by cycle
(R301 to R306, R323). -/

namespace Sys2Proof.Proofs.DmiAccess

open Sys2Proof Sys2Proof.Machine Sys2Proof.Proofs.Exchanges Sys2Proof.Proofs.Framer

/-! Upcalls by their binding. -/

theorem exec_dmiRead (addr : DmiAddr) (data : Word) (s : State) : exec (.dmiRead addr data) s = callDmiRead addr s :=
  rfl

theorem exec_dmiWrite (addr : DmiAddr) (data : Word) (s : State) :
    exec (.dmiWrite addr data) s = callDmiWrite addr data s := rfl

theorem callDmiRead_unbound {s : State} (addr : DmiAddr) (unbound : s.dmiReadBinding = .unbound) :
    callDmiRead addr s = .next s := by
  simp [callDmiRead, unbound]

theorem callDmiWrite_unbound {s : State} (addr : DmiAddr) (data : Word) (unbound : s.dmiWriteBinding = .unbound) :
    callDmiWrite addr data s = .next s := by
  simp [callDmiWrite, unbound]

theorem callDmiRead_returns {s : State} {x : Word} {rest : List UpcallAnswer} (addr : DmiAddr)
    (bound : s.dmiReadBinding = .environment) (answers : s.upcallIn = .returns x :: rest) :
    callDmiRead addr s = .next
      { s with upcallIn := rest, upcalls := s.upcalls ++ [.read addr], dmiRdata := x } := by
  simp [callDmiRead, bound, answers, logUpcall]

theorem callDmiWrite_returns {s : State} {x : Word} {rest : List UpcallAnswer} (addr : DmiAddr) (data : Word)
    (bound : s.dmiWriteBinding = .environment) (answers : s.upcallIn = .returns x :: rest) :
    callDmiWrite addr data s = .next { s with upcallIn := rest, upcalls := s.upcalls ++ [.write addr data] } := by
  simp [callDmiWrite, bound, answers, logUpcall]

theorem callDmiRead_bridge {s t : State} {addr : DmiAddr} {x : Word} (bound : s.dmiReadBinding = .bridge)
    (access : dmiReadAccess addr (logUpcall (.read addr) s) = (x, t)) :
    callDmiRead addr s = .next { t with dmiRdata := x } := by
  simp [callDmiRead, bound, access]

theorem callDmiWrite_bridge {s t : State} {addr : DmiAddr} {data : Word} (bound : s.dmiWriteBinding = .bridge)
    (access : dmiWriteAccess addr data (logUpcall (.write addr data) s) = t) :
    callDmiWrite addr data s = .next t := by
  simp [callDmiWrite, bound, access]

/-- Settles O32: the three things that op 1 can find, by the binding and the list of answers. -/
theorem dmiReadUpcall : Obligations.DmiReadUpcall := by
  unfold Obligations.DmiReadUpcall
  intro s addr data
  refine ⟨callDmiRead_unbound addr, fun _ _ => callDmiRead_returns addr, fun bound empty => ?_⟩
  exact ⟨Config.upcallData s.draws, by simp [exec_dmiRead, callDmiRead, bound, empty, logUpcall]⟩

/-- Settles O33: the three things that op 2 can find, by the binding and the list of answers. -/
theorem dmiWriteUpcall : Obligations.DmiWriteUpcall := by
  unfold Obligations.DmiWriteUpcall
  intro s addr data
  refine ⟨callDmiWrite_unbound addr data, fun _ _ => callDmiWrite_returns addr data, fun bound empty => ?_⟩
  simp [exec_dmiWrite, callDmiWrite, bound, empty, logUpcall]

/-- Settles O34: the next answer of the environment's function is that it hangs. -/
theorem hangingUpcallStops : Obligations.HangingUpcallStops := by
  unfold Obligations.HangingUpcallStops
  intro s addr data rest hangs
  exact ⟨fun bound => by simp [exec_dmiRead, callDmiRead, bound, hangs],
    fun bound => by simp [exec_dmiWrite, callDmiWrite, bound, hangs]⟩

/-! One transaction with the target's next answer, field by field. -/

theorem swdRead_of_answer {s : State} {k : Ack} {d : Word} {q : Bool} {rest : List Bool} (p : Bool) (a : RegAddr)
    (answers : s.swdioIn = readAnswer k d q ++ rest) :
    swdRead p a s = ⟨k, d,
      { s with
        swdioIn := rest, swclk := false, swdioDriven := false, swdioLevel := true
        wire := s.wire ++ readTrace p a (readAnswer k d q) }⟩ := by
  rw [swdRead_eq_after (sampledBits_of_append answers (readAnswer_length k d q)), ackOf_readAnswer, dataOf_readAnswer]
  simp [after, readOf, tookBits, Exchange.trace, answers]

theorem swdWrite_of_answer {s : State} {k : Ack} {rest : List Bool} (a : RegAddr) (d : Word)
    (answers : s.swdioIn = writeAnswer k ++ rest) :
    swdWrite true a d s = ⟨k,
      { s with
        swdioIn := rest, swclk := false, swdioDriven := true, swdioLevel := parity d
        tarShadow := if k = 0b001#3 ∧ a = 0b01#2 then some d else s.tarShadow
        wire := s.wire ++ writeTrace true a d (writeAnswer k) }⟩ := by
  rw [swdWrite_eq_after (sampledBits_of_append answers (writeAnswer_length k))]
  simp [after, writeOf, tookBits, Exchange.trace, answers, noteWrite_eq]

/-! The parts of an access: `EnsureTar`, and what follows it. -/

/-- The cache holds the value, as the statements spell it. -/
def Holds (b : Word) (s : State) : Prop := s.tarCacheValid = true ∧ s.tarCache = b

theorem tarHit_iff (b : Word) (s : State) : tarHit b s = true ↔ Holds b s := by simp [tarHit, Holds]

/-- What follows an OK `EnsureTar` in `DmiRead` (R302): the posted DRW read and RDBUF. -/
def drwRead (s : State) : Word × State :=
  let p := swdRead true aDrw s
  if ackIsOk p.ack then
    let r := swdRead false aRdbuf p.state
    if ackIsOk r.ack then (r.data, r.state) else failRead r.ack r.state
  else failRead p.ack p.state

/-- What follows an OK `EnsureTar` in `DmiWrite` (R303): DRW. -/
def drwWrite (data : Word) (s : State) : State :=
  let w := swdWrite true aDrw data s
  if ackIsOk w.ack then w.state else accessFault w.ack w.state

theorem dmiReadAccess_eq (addr : DmiAddr) (s : State) :
    dmiReadAccess addr s =
      if ackIsOk (ensureTar (byteAddr addr) s).ack then drwRead (ensureTar (byteAddr addr) s).state
      else failRead (ensureTar (byteAddr addr) s).ack (ensureTar (byteAddr addr) s).state := rfl

theorem dmiWriteAccess_eq (addr : DmiAddr) (data : Word) (s : State) :
    dmiWriteAccess addr data s =
      if ackIsOk (ensureTar (byteAddr addr) s).ack then drwWrite data (ensureTar (byteAddr addr) s).state
      else accessFault (ensureTar (byteAddr addr) s).ack (ensureTar (byteAddr addr) s).state := rfl

theorem ackIsOk_ok : ackIsOk 0b001#3 = true := rfl

theorem ackIsOk_of_ne {k : Ack} (bad : k ≠ 0b001#3) : ackIsOk k = false := by simpa [ackIsOk, ackValueOk] using bad

/-- The state after a TAR write that the target answered with `k`, with `rest` still to come. -/
def tarWritten (k : Ack) (b : Word) (rest : List Bool) (s : State) : State :=
  { s with
    swdioIn := rest, swclk := false, swdioDriven := true, swdioLevel := parity b
    tarCache := if k = 0b001#3 then b else s.tarCache
    tarCacheValid := decide (k = 0b001#3)
    tarShadow := if k = 0b001#3 then some b else s.tarShadow
    wire := s.wire ++ writeTrace true 0b01#2 b (writeAnswer k) }

theorem ensureTar_of_holds {b : Word} {s : State} (hit : Holds b s) : ensureTar b s = ⟨0b001#3, s⟩ := by
  rw [ensureTar, if_pos ((tarHit_iff b s).mpr hit)]; rfl

theorem ensureTar_of_answer {b : Word} {s : State} {k : Ack} {rest : List Bool} (miss : ¬ Holds b s)
    (answers : s.swdioIn = writeAnswer k ++ rest) : ensureTar b s = ⟨k, tarWritten k b rest s⟩ := by
  rw [ensureTar, if_neg fun hit => miss ((tarHit_iff b s).mp hit), swdWrite_of_answer aTar b answers]
  by_cases ok : k = 0b001#3
  · subst ok; rfl
  · simp [ackIsOk_of_ne ok, ok, tarWritten, aTar]

section
variable {s : State} {addr : DmiAddr} {k : Ack} {rest : List Bool}

theorem dmiReadAccess_of_holds (hit : Holds (byteAddr addr) s) : dmiReadAccess addr s = drwRead s := by
  rw [dmiReadAccess_eq, ensureTar_of_holds hit]; rfl

theorem dmiWriteAccess_of_holds (data : Word) (hit : Holds (byteAddr addr) s) :
    dmiWriteAccess addr data s = drwWrite data s := by
  rw [dmiWriteAccess_eq, ensureTar_of_holds hit]; rfl

theorem dmiReadAccess_of_tar_ok (miss : ¬ Holds (byteAddr addr) s) (answers : s.swdioIn = writeAnswer 0b001#3 ++ rest) :
    dmiReadAccess addr s = drwRead (tarWritten 0b001#3 (byteAddr addr) rest s) := by
  rw [dmiReadAccess_eq, ensureTar_of_answer miss answers]; rfl

theorem dmiWriteAccess_of_tar_ok (data : Word) (miss : ¬ Holds (byteAddr addr) s)
    (answers : s.swdioIn = writeAnswer 0b001#3 ++ rest) :
    dmiWriteAccess addr data s = drwWrite data (tarWritten 0b001#3 (byteAddr addr) rest s) := by
  rw [dmiWriteAccess_eq, ensureTar_of_answer miss answers]; rfl

theorem dmiReadAccess_of_tar_failed (bad : k ≠ 0b001#3) (miss : ¬ Holds (byteAddr addr) s)
    (answers : s.swdioIn = writeAnswer k ++ rest) :
    dmiReadAccess addr s = failRead k (tarWritten k (byteAddr addr) rest s) := by
  simp [dmiReadAccess_eq, ensureTar_of_answer miss answers, ackIsOk_of_ne bad]

theorem dmiWriteAccess_of_tar_failed (data : Word) (bad : k ≠ 0b001#3) (miss : ¬ Holds (byteAddr addr) s)
    (answers : s.swdioIn = writeAnswer k ++ rest) :
    dmiWriteAccess addr data s = accessFault k (tarWritten k (byteAddr addr) rest s) := by
  simp [dmiWriteAccess_eq, ensureTar_of_answer miss answers, ackIsOk_of_ne bad]

theorem drwRead_ok {stale d : Word} {p q : Bool}
    (answers : s.swdioIn = readAnswer 0b001#3 stale p ++ readAnswer 0b001#3 d q ++ rest) :
    drwRead s = (d,
      { s with
        swdioIn := rest, swclk := false, swdioDriven := false, swdioLevel := true
        wire := s.wire ++ readTrace true 0b11#2 (readAnswer 0b001#3 stale p)
          ++ readTrace false 0b11#2 (readAnswer 0b001#3 d q) }) := by
  rw [List.append_assoc] at answers
  simp only [drwRead, swdRead_of_answer _ _ answers, ackIsOk_ok, if_true]
  rw [swdRead_of_answer (k := 0b001#3) (d := d) (q := q) (rest := rest) false aRdbuf rfl]
  rfl

theorem drwRead_failed {d : Word} {p : Bool} (bad : k ≠ 0b001#3) (answers : s.swdioIn = readAnswer k d p ++ rest) :
    drwRead s = (Config.failedReadData s.draws,
      { s with
        swdioIn := rest, swclk := false, swdioDriven := false, swdioLevel := true
        linkFault := some k, draws := s.draws + 1
        wire := s.wire ++ readTrace true 0b11#2 (readAnswer k d p) }) := by
  simp [drwRead, swdRead_of_answer _ _ answers, ackIsOk_of_ne bad, failRead, accessFault, aDrw]

theorem drwRead_rdbuf_failed {stale d : Word} {p q : Bool} (bad : k ≠ 0b001#3)
    (answers : s.swdioIn = readAnswer 0b001#3 stale q ++ readAnswer k d p ++ rest) :
    drwRead s = (Config.failedReadData s.draws,
      { s with
        swdioIn := rest, swclk := false, swdioDriven := false, swdioLevel := true
        linkFault := some k, draws := s.draws + 1
        wire := s.wire ++ readTrace true 0b11#2 (readAnswer 0b001#3 stale q)
          ++ readTrace false 0b11#2 (readAnswer k d p) }) := by
  rw [List.append_assoc] at answers
  simp only [drwRead, swdRead_of_answer _ _ answers, ackIsOk_ok, if_true]
  rw [swdRead_of_answer (k := k) (d := d) (q := p) (rest := rest) false aRdbuf rfl]
  simp [ackIsOk_of_ne bad, failRead, accessFault, aDrw, aRdbuf]

theorem drwWrite_ok {data : Word} (answers : s.swdioIn = writeAnswer 0b001#3 ++ rest) :
    drwWrite data s =
      { s with
        swdioIn := rest, swclk := false, swdioDriven := true, swdioLevel := parity data
        wire := s.wire ++ writeTrace true 0b11#2 data (writeAnswer 0b001#3) } := by
  simp [drwWrite, swdWrite_of_answer _ _ answers, ackIsOk_ok, aDrw]

theorem drwWrite_failed {data : Word} (bad : k ≠ 0b001#3) (answers : s.swdioIn = writeAnswer k ++ rest) :
    drwWrite data s =
      { s with
        swdioIn := rest, swclk := false, swdioDriven := true, swdioLevel := parity data, linkFault := some k
        wire := s.wire ++ writeTrace true 0b11#2 data (writeAnswer k) } := by
  simp [drwWrite, swdWrite_of_answer _ _ answers, ackIsOk_of_ne bad, accessFault, aDrw]

end

/-! The accesses of the assembled bridge: each follows from the parts that it is made of. -/

/-- Settles O35. -/
theorem dmiReadOverSwd : Obligations.DmiReadOverSwd := by
  unfold Obligations.DmiReadOverSwd
  intro s addr data stale d p q rest bound
  let u := logUpcall (.read addr) s
  refine ⟨fun valid same answers => ?_, fun miss answers => ?_⟩
  · have access := (dmiReadAccess_of_holds (s := u) (addr := addr) ⟨valid, same⟩).trans (drwRead_ok answers)
    exact (callDmiRead_bridge bound access :)
  · rw [List.append_assoc, List.append_assoc, ← List.append_assoc (readAnswer _ _ _)] at answers
    have access := (dmiReadAccess_of_tar_ok (s := u) (addr := addr) miss answers).trans (drwRead_ok rfl)
    exact (callDmiRead_bridge bound access :)

/-- Settles O36. -/
theorem dmiWriteOverSwd : Obligations.DmiWriteOverSwd := by
  unfold Obligations.DmiWriteOverSwd
  intro s addr data rest bound
  let u := logUpcall (.write addr data) s
  refine ⟨fun valid same answers => ?_, fun miss answers => ?_⟩
  · have access := (dmiWriteAccess_of_holds (s := u) (addr := addr) data ⟨valid, same⟩).trans (drwWrite_ok answers)
    exact (callDmiWrite_bridge bound access :)
  · rw [List.append_assoc] at answers
    have access := (dmiWriteAccess_of_tar_ok (s := u) (addr := addr) data miss answers).trans (drwWrite_ok rfl)
    exact (callDmiWrite_bridge bound access :)

/-- Settles O37: the five transactions of an access that misses. -/
theorem accessFaultStopsTheAccess : Obligations.AccessFaultStopsTheAccess := by
  unfold Obligations.AccessFaultStopsTheAccess
  intro s addr data stale d k p q rest bad miss
  let u := logUpcall (.read addr) s
  let v := logUpcall (.write addr data) s
  refine ⟨fun bound answers => ?_, fun bound answers => ?_, fun bound answers => ?_, fun bound answers => ?_,
    fun bound answers => ?_⟩
  · rw [exec_dmiRead, callDmiRead_bridge bound (dmiReadAccess_of_tar_failed (s := u) bad miss answers)]
    simp [tarWritten, bad, accessFault, u, logUpcall, byteAddr]
  · rw [List.append_assoc] at answers
    have access := (dmiReadAccess_of_tar_ok (s := u) (addr := addr) miss answers).trans (drwRead_failed bad rfl)
    exact (callDmiRead_bridge bound access :)
  · rw [List.append_assoc, List.append_assoc, ← List.append_assoc (readAnswer _ _ _)] at answers
    have access := (dmiReadAccess_of_tar_ok (s := u) (addr := addr) miss answers).trans (drwRead_rdbuf_failed bad rfl)
    exact (callDmiRead_bridge bound access :)
  · rw [exec_dmiWrite, callDmiWrite_bridge bound (dmiWriteAccess_of_tar_failed (s := v) data bad miss answers)]
    simp [tarWritten, bad, accessFault, v, logUpcall, byteAddr]
  · rw [List.append_assoc] at answers
    have access := (dmiWriteAccess_of_tar_ok (s := v) (addr := addr) data miss answers).trans (drwWrite_failed bad rfl)
    exact (callDmiWrite_bridge bound access :)

/-- Settles O38: the three transactions of an access that hits. -/
theorem accessFaultOnTarHit : Obligations.AccessFaultOnTarHit := by
  unfold Obligations.AccessFaultOnTarHit
  intro s addr data stale d k p q rest bad valid same
  have hit (u : Upcall) : Holds (byteAddr addr) (logUpcall u s) := ⟨valid, same⟩
  refine ⟨fun bound answers => ?_, fun bound answers => ?_, fun bound answers => ?_⟩
  · exact (callDmiRead_bridge bound ((dmiReadAccess_of_holds (hit _)).trans (drwRead_failed bad answers)) :)
  · exact (callDmiRead_bridge bound ((dmiReadAccess_of_holds (hit _)).trans (drwRead_rdbuf_failed bad answers)) :)
  · exact (callDmiWrite_bridge bound ((dmiWriteAccess_of_holds data (hit _)).trans (drwWrite_failed bad answers)) :)

end Sys2Proof.Proofs.DmiAccess
end

section
/-! PROOF. DMI accesses as whole calls: what they leave as it was (R205, R327), called by themselves (R15), and in a
run (R304). -/

namespace Sys2Proof.Proofs.AccessCalls

open Sys2Proof Sys2Proof.Machine Sys2Proof.Proofs.TapEdges Sys2Proof.Proofs.DmiAccess

/-! Nothing is handed back and SELECT is not written. -/

/-- `t` has the returns of `s` and its record of SELECT. -/
structure Silent (s t : State) : Prop where
  returns : t.returns = s.returns
  selectShadow : t.selectShadow = s.selectShadow

theorem Silent.trans {s t u : State} (h : Silent s t) (g : Silent t u) : Silent s u where
  returns := g.returns.trans h.returns
  selectShadow := g.selectShadow.trans h.selectShadow

theorem silent_swdRead (p : Bool) (a : RegAddr) (s : State) : Silent s (swdRead p a s).state := by
  rw [swdRead_eq]
  exact ⟨rfl, rfl⟩

/-- A write to an AP register. -/
theorem silent_swdWrite (a : RegAddr) (d : Word) (s : State) : Silent s (swdWrite true a d s).state where
  returns := by rw [swdWrite_eq, noteWrite_returns]; rfl
  selectShadow := by simp [swdWrite_selectShadow]

theorem silent_ensureTar (b : Word) (s : State) : Silent s (ensureTar b s).state := by
  have tar := silent_swdWrite aTar b s
  rcases ensureTar_cases b s with ⟨_, h⟩ | ⟨_, _, h⟩ | ⟨_, _, h⟩ <;> rw [h]
  · exact ⟨rfl, rfl⟩
  · exact ⟨tar.returns, tar.selectShadow⟩
  · exact ⟨tar.returns, tar.selectShadow⟩

theorem silent_failRead (k : Ack) (s : State) : Silent s (failRead k s).2 := ⟨rfl, rfl⟩

theorem silent_accessFault (k : Ack) (s : State) : Silent s (accessFault k s) := ⟨rfl, rfl⟩

theorem silent_dmiReadAccess (addr : DmiAddr) (s : State) : Silent s (dmiReadAccess addr s).2 := by
  have tar := silent_ensureTar (byteAddr addr) s
  have drw := tar.trans (silent_swdRead true aDrw _)
  have rdbuf := drw.trans (silent_swdRead false aRdbuf _)
  rcases dmiReadAccess_cases addr s with ⟨_, h⟩ | ⟨_, _, h⟩ | ⟨_, _, _, h⟩ | ⟨_, _, _, h⟩ <;> rw [h]
  · exact tar.trans (silent_failRead _ _)
  · exact drw.trans (silent_failRead _ _)
  · exact rdbuf.trans (silent_failRead _ _)
  · exact rdbuf

theorem silent_dmiWriteAccess (addr : DmiAddr) (data : Word) (s : State) : Silent s (dmiWriteAccess addr data s) := by
  have tar := silent_ensureTar (byteAddr addr) s
  have drw := tar.trans (silent_swdWrite aDrw data _)
  rcases dmiWriteAccess_cases addr data s with ⟨_, h⟩ | ⟨_, _, h⟩ | ⟨_, _, h⟩ <;> rw [h]
  · exact tar.trans (silent_accessFault _ _)
  · exact drw.trans (silent_accessFault _ _)
  · exact drw

/-- Settles O40: an access is complete with whatever it does on the wire, and touches nothing beyond it. -/
theorem dmiOverSwdAlwaysCompletes : Obligations.DmiOverSwdAlwaysCompletes := by
  unfold Obligations.DmiOverSwdAlwaysCompletes
  intro s addr data
  refine ⟨fun bound => ⟨_, callDmiRead_bridge bound rfl, ?_⟩, fun bound => ⟨_, callDmiWrite_bridge bound rfl, ?_⟩⟩
  · have frame := sameBeyondWire_dmiReadAccess addr (logUpcall (.read addr) s)
    have silent := silent_dmiReadAccess addr (logUpcall (.read addr) s)
    exact ⟨frame.upcalls, silent.returns, silent.selectShadow, frame.ir, frame.shifter, frame.tapState, frame.tck,
      frame.tms, frame.tdi, frame.tdo, frame.dmiReadBinding, frame.dmiWriteBinding⟩
  · have frame := sameBeyondWire_dmiWriteAccess addr data (logUpcall (.write addr data) s)
    have silent := silent_dmiWriteAccess addr data (logUpcall (.write addr data) s)
    exact ⟨frame.upcalls, silent.returns, silent.selectShadow, frame.dmiRdata, frame.ir, frame.shifter, frame.tapState,
      frame.tck, frame.tms, frame.tdi, frame.tdo, frame.dmiReadBinding, frame.dmiWriteBinding⟩

/-! An access looks at no binding and at no upcall made. -/

/-- `s` with other bindings and other upcalls made. -/
def rebound (r w : Binding) (us : List Upcall) (s : State) : State :=
  { s with dmiReadBinding := r, dmiWriteBinding := w, upcalls := us }

section
variable (r w : Binding) (us : List Upcall)

theorem swdRead_rebound (p : Bool) (a : RegAddr) (s : State) :
    swdRead p a (rebound r w us s) =
      ⟨(swdRead p a s).ack, (swdRead p a s).data, rebound r w us (swdRead p a s).state⟩ := by
  simp only [swdRead_eq]
  rfl

theorem swdWrite_rebound (p : Bool) (a : RegAddr) (d : Word) (s : State) :
    swdWrite p a d (rebound r w us s) = ⟨(swdWrite p a d s).ack, rebound r w us (swdWrite p a d s).state⟩ := by
  simp only [swdWrite_eq, Framer.noteWrite_eq]
  rfl

theorem ensureTar_rebound (b : Word) (s : State) :
    ensureTar b (rebound r w us s) = ⟨(ensureTar b s).ack, rebound r w us (ensureTar b s).state⟩ := by
  simp only [ensureTar, swdWrite_rebound, show tarHit b (rebound r w us s) = tarHit b s from rfl]
  split_ifs <;> rfl

theorem dmiReadAccess_rebound (addr : DmiAddr) (s : State) :
    dmiReadAccess addr (rebound r w us s) = ((dmiReadAccess addr s).1, rebound r w us (dmiReadAccess addr s).2) := by
  simp only [dmiReadAccess, ensureTar_rebound, swdRead_rebound]
  split_ifs <;> rfl

theorem dmiWriteAccess_rebound (addr : DmiAddr) (data : Word) (s : State) :
    dmiWriteAccess addr data (rebound r w us s) = rebound r w us (dmiWriteAccess addr data s) := by
  simp only [dmiWriteAccess, ensureTar_rebound, swdWrite_rebound]
  split_ifs <;> rfl

end

/-! Accesses called by themselves. -/

theorem step_dmiRead {s : State} {addr : DmiAddr} {rest : List Event} (idle : s.framer = .idle)
    (call : s.events = .dmiRead addr :: rest) : step s = .next (dmiReadCall addr { s with events := rest }) :=
  step_of_callWork_done idle call rfl

theorem step_dmiWrite {s : State} {addr : DmiAddr} {data : Word} {rest : List Event} (idle : s.framer = .idle)
    (call : s.events = .dmiWrite addr data :: rest) :
    step s = .next (dmiWriteAccess addr data { s with events := rest }) :=
  step_of_callWork_done idle call rfl

/-- The upcall is the access with the binding set and one upcall more in the record; its result is latched. -/
theorem exec_dmiRead_bound (addr : DmiAddr) (data : Word) (s : State) :
    exec (.dmiRead addr data) { s with dmiReadBinding := .bridge } = .next
      { rebound .bridge s.dmiWriteBinding (s.upcalls ++ [.read addr]) (dmiReadAccess addr s).2 with
        dmiRdata := (dmiReadAccess addr s).1 } := by
  have called : logUpcall (.read addr) { s with dmiReadBinding := .bridge } =
      rebound .bridge s.dmiWriteBinding (s.upcalls ++ [.read addr]) s := rfl
  rw [exec_dmiRead, callDmiRead_bridge rfl (by rw [called, dmiReadAccess_rebound])]

theorem exec_dmiWrite_bound (addr : DmiAddr) (data : Word) (s : State) :
    exec (.dmiWrite addr data) { s with dmiWriteBinding := .bridge } = .next
      (rebound s.dmiReadBinding .bridge (s.upcalls ++ [.write addr data]) (dmiWriteAccess addr data s)) := by
  have called : logUpcall (.write addr data) { s with dmiWriteBinding := .bridge } =
      rebound s.dmiReadBinding .bridge (s.upcalls ++ [.write addr data]) s := rfl
  rw [exec_dmiWrite, callDmiWrite_bridge rfl (by rw [called, dmiWriteAccess_rebound])]

/-- Setting back what the read upcall has changed beside the access gives the access. -/
theorem answer_eq_of_frame {s t : State} (frame : SameBeyondWire s t) (silent : Silent s t) (x : Word)
    (us : List Upcall) :
    answer (.dmiRead x) t =
      { rebound .bridge s.dmiWriteBinding us t with
        dmiReadBinding := s.dmiReadBinding, dmiRdata := s.dmiRdata, upcalls := s.upcalls
        returns := s.returns ++ [.dmiRead x] } := by
  rw [← frame.dmiReadBinding, ← frame.dmiWriteBinding, ← frame.dmiRdata, ← frame.upcalls, ← silent.returns]
  rfl

theorem eq_rebound_of_frame {s t : State} (frame : SameBeyondWire s t) (us : List Upcall) :
    t = { rebound s.dmiReadBinding .bridge us t with
          dmiWriteBinding := s.dmiWriteBinding, upcalls := s.upcalls } := by
  rw [← frame.dmiReadBinding, ← frame.dmiWriteBinding, ← frame.upcalls]
  rfl

/-- Settles O39: an access writes nothing that tells the two ways of calling it apart. -/
theorem directAccesses : Obligations.DirectAccesses := by
  unfold Obligations.DirectAccesses
  intro s addr data stale d p q rest more idle
  let u : State := { s with events := rest }
  refine ⟨fun call => ?_, fun call => ?_, fun call valid same answers => ?_, fun call miss answers => ?_⟩
  · refine ⟨_, exec_dmiRead_bound addr data u, (step_dmiRead idle call).trans (congrArg _ ?_)⟩
    exact answer_eq_of_frame (sameBeyondWire_dmiReadAccess addr u) (silent_dmiReadAccess addr u) _
      (u.upcalls ++ [.read addr])
  · refine ⟨_, exec_dmiWrite_bound addr data u, (step_dmiWrite idle call).trans (congrArg _ ?_)⟩
    exact eq_rebound_of_frame (sameBeyondWire_dmiWriteAccess addr data u) (u.upcalls ++ [.write addr data])
  · rw [step_dmiRead idle call, dmiReadCall, dmiReadAccess_of_holds (s := u) ⟨valid, same⟩, drwRead_ok (s := u) answers]
    exact ⟨_, rfl, rfl, rfl, rfl⟩
  · rw [List.append_assoc, List.append_assoc, ← List.append_assoc (readAnswer _ _ _)] at answers
    rw [step_dmiRead idle call, dmiReadCall, dmiReadAccess_of_tar_ok (s := u) miss answers, drwRead_ok rfl]
    exact ⟨_, rfl, rfl, rfl, rfl⟩

/-! Runs of accesses (R304). -/

theorem byteAddr_injective {a b : DmiAddr} (h : byteAddr a = byteAddr b) : a = b := by
  apply BitVec.eq_of_toNat_eq
  have hn := congrArg BitVec.toNat h
  simp only [byteAddr, BitVec.toNat_shiftLeft, BitVec.toNat_setWidth] at hn
  have := a.isLt
  have := b.isLt
  omega

/-- The sticky mark is clear in `t` only if no ACK has failed since `s`; then the cache holds the address of the access,
and the wire has the TAR write, unless the cache held it before, and `n` cycles more. -/
structure Accessed (addr : DmiAddr) (n : Nat) (s t : State) : Prop where
  mark : s.linkFault = none
  holds : Holds (byteAddr addr) t
  wire : (Holds (byteAddr addr) s → t.wire.length = s.wire.length + n) ∧
    (¬ Holds (byteAddr addr) s → t.wire.length = s.wire.length + 46 + n)

theorem swdRead_wire_length (p : Bool) (a : RegAddr) (s : State) :
    (swdRead p a s).state.wire.length = s.wire.length + 46 := by
  rw [Packets.swdRead_wire, List.length_append, readTrace_length, sampledBits_length]

theorem swdWrite_wire_length (p : Bool) (a : RegAddr) (d : Word) (s : State) :
    (swdWrite p a d s).state.wire.length = s.wire.length + 46 := by
  rw [Packets.swdWrite_wire, List.length_append, writeTrace_length, sampledBits_length]

theorem accessed_ensureTar {addr : DmiAddr} {s : State} (ok : ackIsOk (ensureTar (byteAddr addr) s).ack = true)
    (clear : (ensureTar (byteAddr addr) s).state.linkFault = none) :
    Accessed addr 0 s (ensureTar (byteAddr addr) s).state := by
  rcases ensureTar_cases (byteAddr addr) s with ⟨hit, h⟩ | ⟨miss, _, h⟩ | ⟨_, failed, h⟩ <;> rw [h] at ok clear ⊢
  · have holds := (tarHit_iff _ s).mp hit
    exact ⟨clear, holds, fun _ => rfl, absurd holds⟩
  · have lacks : ¬ Holds (byteAddr addr) s := fun holds => by rw [(tarHit_iff _ s).mpr holds] at miss; cases miss
    refine ⟨by simpa using clear, ⟨rfl, rfl⟩, fun holds => absurd holds lacks, fun _ => ?_⟩
    exact swdWrite_wire_length true aTar (byteAddr addr) s
  · exact absurd (ok.symm.trans failed) (by decide)

/-- More cycles after `EnsureTar`, with the cache and the mark left alone. -/
theorem Accessed.andThen {addr : DmiAddr} {m n : Nat} {s t u : State} (h : Accessed addr m s t)
    (tar : TarCache.SameTar t u) (wire : u.wire.length = t.wire.length + n) : Accessed addr (m + n) s u where
  mark := h.mark
  holds := ⟨tar.valid.trans h.holds.1, tar.cache.trans h.holds.2⟩
  wire := ⟨fun hit => by rw [wire, h.wire.1 hit]; omega, fun miss => by rw [wire, h.wire.2 miss]; omega⟩

theorem accessed_dmiReadAccess {addr : DmiAddr} {s : State} (clear : (dmiReadAccess addr s).2.linkFault = none) :
    Accessed addr 92 s (dmiReadAccess addr s).2 := by
  rcases dmiReadAccess_cases addr s with ⟨_, h⟩ | ⟨_, _, h⟩ | ⟨_, _, _, h⟩ | ⟨ok, _, _, h⟩ <;> rw [h] at clear ⊢
  · cases clear
  · cases clear
  · cases clear
  · rw [swdRead_linkFault, swdRead_linkFault] at clear
    have drw := (accessed_ensureTar ok clear).andThen (TarCache.sameTar_swdRead true aDrw _) (swdRead_wire_length _ _ _)
    exact drw.andThen (TarCache.sameTar_swdRead false aRdbuf _) (swdRead_wire_length _ _ _)

theorem accessed_dmiWriteAccess {addr : DmiAddr} {data : Word} {s : State}
    (clear : (dmiWriteAccess addr data s).linkFault = none) : Accessed addr 46 s (dmiWriteAccess addr data s) := by
  rcases dmiWriteAccess_cases addr data s with ⟨_, h⟩ | ⟨_, _, h⟩ | ⟨ok, _, h⟩ <;> rw [h] at clear ⊢
  · cases clear
  · cases clear
  · rw [swdWrite_linkFault] at clear
    have drw := TarCache.sameTar_swdWrite (p := true) (a := aDrw) (by decide) data
    exact (accessed_ensureTar ok clear).andThen (drw _) (swdWrite_wire_length _ _ _ _)

/-- The cache holds the address `last`, if any. -/
def Caches (last : Option DmiAddr) (s : State) : Prop := ∀ addr, Holds (byteAddr addr) s ↔ last = some addr

theorem caches_of_holds {addr : DmiAddr} {s : State} (h : Holds (byteAddr addr) s) : Caches (some addr) s := by
  intro b
  rw [Option.some_inj]
  refine ⟨fun other => byteAddr_injective (h.2.symm.trans other.2), ?_⟩
  rintro rfl
  exact h

theorem Accessed.wire_length {addr : DmiAddr} {n : Nat} {s t : State} {last : Option DmiAddr}
    (h : Accessed addr n s t) (cache : Caches last s) :
    t.wire.length = s.wire.length + ((if last = some addr then 0 else 46) + n) := by
  split
  · next hit => rw [h.wire.1 ((cache addr).mpr hit)]; omega
  · next miss => rw [h.wire.2 fun holds => miss ((cache addr).mp holds)]; omega

/-- A run of accesses in which the mark stays clear, with the address that the cache holds at its start. -/
theorem accesses_wire_length {es : List Event} {s t : State} (accesses : ∀ e ∈ es, e.isAccess = true)
    (idle : s.framer = .idle) (calls : s.events = es) (h : run es.length s = .next t) (clear : t.linkFault = none) :
    s.linkFault = none ∧ ∀ last, Caches last s → t.wire.length = s.wire.length + accessCycles last es := by
  induction es generalizing s with
  | nil => cases h; exact ⟨clear, fun _ _ => rfl⟩
  | cons e rest ih =>
    have later : ∀ e ∈ rest, e.isAccess = true := fun e mem => accesses e (List.mem_cons_of_mem _ mem)
    have access : e.isAccess = true := accesses e (by simp)
    let u : State := { s with events := rest }
    cases e with
    | dmiRead addr =>
      have frame := sameBeyondWire_dmiReadAccess addr u
      rw [List.length_cons, run_succ_of_next (step_dmiRead idle calls)] at h
      obtain ⟨unmarked, wire⟩ := ih (s := dmiReadCall addr u) later (frame.framer.trans idle) frame.events h
      have accessed : Accessed addr 92 u (dmiReadAccess addr u).2 := accessed_dmiReadAccess unmarked
      refine ⟨accessed.mark, fun last cache => ?_⟩
      rw [wire (some addr) (caches_of_holds accessed.holds), accessCycles, ← Nat.add_assoc]
      exact congrArg (· + _) (accessed.wire_length cache)
    | dmiWrite addr data =>
      have frame := sameBeyondWire_dmiWriteAccess addr data u
      rw [List.length_cons, run_succ_of_next (step_dmiWrite idle calls)] at h
      obtain ⟨unmarked, wire⟩ := ih (s := dmiWriteAccess addr data u) later (frame.framer.trans idle) frame.events h
      have accessed : Accessed addr 46 u (dmiWriteAccess addr data u) := accessed_dmiWriteAccess unmarked
      refine ⟨accessed.mark, fun last cache => ?_⟩
      rw [wire (some addr) (caches_of_holds accessed.holds), accessCycles, ← Nat.add_assoc]
      exact congrArg (· + _) (accessed.wire_length cache)
    | setTms | setTdi | setTck | getTdo | connect | bindRead | bindWrite | destroy | swdHeader | swdPacket =>
      cases access

/-- Settles O41: the cache is invalid at the start, so that it holds no address. -/
theorem tarCacheLaw : Obligations.TarCacheLaw := by
  unfold Obligations.TarCacheLaw
  intro s t es accesses idle invalid _ h clear
  exact (accesses_wire_length (s := { s with events := es }) accesses idle rfl h clear).2 none
    fun addr => by simp [Holds, invalid]

end Sys2Proof.Proofs.AccessCalls
end

section
/-! PROOF. Which bits the tests of `connect` look at (R40, R268, R269). -/

namespace Sys2Proof.Proofs.ConnectTests

open Sys2Proof Sys2Proof.Machine

/-- The mask keeps the class, in bits 13 to 16, and the type, in bits 0 to 3. -/
theorem and_idrMask (v : Word) :
    v &&& idrMask = (v.extractLsb' 13 4).setWidth 32 <<< 13 ||| (v.extractLsb' 0 4).setWidth 32 := by
  apply BitVec.eq_of_getLsbD_eq
  intro i hi
  have mask : idrMask.getLsbD i = (decide (13 ≤ i ∧ i < 17) || decide (i < 4)) := by revert i; decide
  rw [BitVec.getLsbD_and, mask]
  by_cases low : i < 4
  · simp [low, hi]
    omega
  · by_cases cls : 13 ≤ i
    · simp [low, hi, cls]
      grind
    · simp [low, hi, cls]

/-- A bit test by a mask of one bit. -/
theorem and_twoPow_ne_zero (v : Word) (i : Nat) (hi : i < 32) :
    ((v &&& BitVec.twoPow 32 i) != 0#32) = v.getLsbD i := by
  have one : BitVec.twoPow 32 i ≠ 0#32 := by revert i; decide
  rw [BitVec.and_twoPow]
  cases v.getLsbD i <;> simp [one]

/-- Settles O57. -/
theorem connectTestsReadTheseBits : Obligations.ConnectTestsReadTheseBits := by
  unfold Obligations.ConnectTestsReadTheseBits
  refine ⟨fun idr => ?_, fun v => ?_⟩
  · have fields : ∀ a b : BitVec 4, ((a.setWidth 32 <<< 13 ||| b.setWidth 32) == idrExpected) = true ↔
        a = 8#4 ∧ b = 2#4 := by decide
    rw [isMemAp, and_idrMask]
    exact fields _ _
  · exact congrArg₂ and (and_twoPow_ne_zero v 31 (by decide)) (and_twoPow_ne_zero v 29 (by decide))

end Sys2Proof.Proofs.ConnectTests
end

section
/-! PROOF. Whole TCK cycles (R15): what one does, and how many with TMS = 1 reach S_RESET (R142). -/

namespace Sys2Proof.Proofs.Pulses

open Sys2Proof Sys2Proof.Machine Sys2Proof.Proofs.TapActions Sys2Proof.Proofs.Vdtm Sys2Proof.Proofs.VdtmSteps

/-! A cycle whose upcalls, if any, are the bridge's. -/

/-- No upcall is bound to a function of the environment: no action can hang. -/
def Unhung (s : State) : Prop := s.dmiReadBinding ≠ .environment ∧ s.dmiWriteBinding ≠ .environment

/-- Between two TCK cycles, with the calls `rest` to come. -/
structure Ready (rest : List Event) (s : State) : Prop where
  idle : s.framer = .idle
  low : s.tck = false
  events : s.events = rest

theorem exec_tapInstr_next {s : State} (rest : List Event) (unhung : Unhung s) :
    ∃ u, exec (tapInstr s) { s with events := rest } = .next u := by
  cases action : exec (tapInstr s) { s with events := rest } with
  | next u => exact ⟨u, rfl⟩
  | fault r =>
    obtain ⟨-, -, -, ⟨-, read⟩ | ⟨-, write⟩⟩ := exec_tapInstr_eq_fault action
    · exact absurd read unhung.1
    · exact absurd write unhung.2
  | refused r => exact absurd action (exec_tapInstr_ne_refused s rest r)

/-- One cycle moves the TAP by one transition, and an entry into S_RESET sets `ir` (R135, R161). -/
theorem run_pulse_next {s : State} {tms tdi : Bool} {rest : List Event} (ready : Ready (pulse tms tdi ++ rest) s)
    (unhung : Unhung s) :
    ∃ t, run 4 s = .next t ∧ Ready rest t ∧ Unhung t ∧ t.tapState = nextState s.tapState tms ∧
      (t.tapState = .sReset → t.ir = irIdcode) := by
  let edge : State := { s with tms := tms, tdi := tdi }
  obtain ⟨u, action⟩ := exec_tapInstr_next (s := edge) (.setTck false :: rest) unhung
  obtain ⟨framer, events⟩ := TarCache.exec_tapInstr_framer_events action
  obtain ⟨v, -, frame⟩ := exec_tapInstr_frame action
  have moved : nextState u.tapState u.tms = nextState s.tapState tms := frame.tapState
  refine ⟨_, run_pulse ready.idle ready.low ready.events action (framer.trans ready.idle) events,
    ⟨framer.trans ready.idle, rfl, rfl⟩, ?_, moved, fun reset => if_pos reset⟩
  exact ⟨fun env => unhung.1 (frame.dmiReadBinding.symm.trans env),
    fun env => unhung.2 (frame.dmiWriteBinding.symm.trans env)⟩

/-! With TMS = 1. -/

/-- How many cycles with TMS = 1 lead from a state to S_RESET (R142). -/
def resetDistance : TapState → Nat
  | .sReset => 0
  | .sSelectIr => 1
  | .sSelectDr => 2
  | .sRunIdle | .sUpdateDr | .sUpdateIr => 3
  | .sExit1Dr | .sExit2Dr | .sExit1Ir | .sExit2Ir => 4
  | .sCaptureDr | .sShiftDr | .sPauseDr | .sCaptureIr | .sShiftIr | .sPauseIr => 5

theorem resetDistance_nextState (tap : TapState) : resetDistance (nextState tap true) = resetDistance tap - 1 := by
  cases tap <;> rfl

theorem resetDistance_eq_zero_iff (tap : TapState) : resetDistance tap = 0 ↔ tap = .sReset := by
  cases tap <;> simp [resetDistance]

/-- `n` cycles with TMS = 1 take `n` off the distance, down to 0. -/
theorem run_tmsOnes (n : Nat) {s : State} (ready : Ready (tmsSeq (List.replicate n true)) s) (unhung : Unhung s) :
    ∃ t, run (tmsSeq (List.replicate n true)).length s = .next t ∧
      resetDistance t.tapState = resetDistance s.tapState - n ∧
      ((0 < n ∨ (s.tapState = .sReset → s.ir = irIdcode)) → t.tapState = .sReset → t.ir = irIdcode) := by
  induction n generalizing s with
  | zero => exact ⟨s, rfl, rfl, fun h => h.resolve_left (by simp)⟩
  | succ n ih =>
    obtain ⟨u, first, readyU, unhungU, moved, reset⟩ :=
      run_pulse_next (rest := tmsSeq (List.replicate n true)) ready unhung
    obtain ⟨t, later, distance, holds⟩ := ih readyU unhungU
    refine ⟨t, ?_, ?_, fun _ => holds (.inr reset)⟩
    · have length : (tmsSeq (List.replicate (n + 1) true)).length = 4 + (tmsSeq (List.replicate n true)).length := by
        simp [tmsSeq, List.replicate_succ, pulse]
        omega
      rw [length, run_add 4 _ s u first, later]
    · rw [distance, moved, resetDistance_nextState]
      omega

/-- Settles O18: the counts of R142 are the distances. -/
theorem tmsOnesReachReset : Obligations.TmsOnesReachReset := by
  unfold Obligations.TmsOnesReachReset
  intro s n idle low read write
  obtain ⟨t, plays, distance, idcode⟩ := run_tmsOnes n
    (s := { s with events := tmsSeq (List.replicate n true) }) ⟨idle, low, rfl⟩ ⟨read, write⟩
  refine ⟨t, plays, fun pos => idcode (.inl pos), fun row mem start => ?_⟩
  have count : row.2 = resetDistance row.1 := by clear start; revert row; decide
  rw [← resetDistance_eq_zero_iff, distance, count, ← start]
  exact Nat.sub_eq_zero_iff_le

end Sys2Proof.Proofs.Pulses
end

section
/-! PROOF. The bits of a scan (R163, R171): what a list of shifts leaves in the shifter, and what they show. -/

namespace Sys2Proof.Proofs.ShiftIn

open Sys2Proof Sys2Proof.Machine

/-- The shift of a register of `len` bits: one place down, `b` in at the top (R171). -/
def shiftIn (len : Nat) (b : Bool) (v : ShiftReg) : ShiftReg :=
  ((v &&& shiftMask len) >>> 1) ||| (bitAtZero b <<< (len - 1))

theorem shiftMask_getLsbD {len : Nat} (le : len ≤ 42) (k : Nat) : (shiftMask len).getLsbD k = decide (k < len) := by
  have mask : ∀ n < 43, shiftMask n = (BitVec.allOnes n).setWidth 42 := by decide
  rw [mask len (by omega)]
  simp only [BitVec.getLsbD_setWidth, BitVec.getLsbD_allOnes, Bool.and_eq_right_iff_imp, decide_eq_true_eq]
  omega

theorem shiftIn_getLsbD {len : Nat} (pos : 0 < len) (le : len ≤ 42) (b : Bool) (v : ShiftReg) (k : Nat) :
    (shiftIn len b v).getLsbD k = if k + 1 < len then v.getLsbD (k + 1) else if k + 1 = len then b else false := by
  have above : 42 ≤ k + 1 → v.getLsbD (k + 1) = false := BitVec.getLsbD_of_ge _ _
  simp only [shiftIn, BitVec.getLsbD_or, BitVec.getLsbD_ushiftRight, BitVec.getLsbD_and, shiftMask_getLsbD le, bitAtZero]
  grind

/-- After shifting in these bits, the first of them first. -/
def shiftAll (len : Nat) (bits : List Bool) (v : ShiftReg) : ShiftReg := bits.foldl (fun v b => shiftIn len b v) v

@[simp] theorem shiftAll_nil (len : Nat) (v : ShiftReg) : shiftAll len [] v = v := rfl

@[simp] theorem shiftAll_cons (len : Nat) (b : Bool) (bits : List Bool) (v : ShiftReg) :
    shiftAll len (b :: bits) v = shiftAll len bits (shiftIn len b v) := rfl

/-- The last bits above what is left of the old value (R361). -/
theorem shiftAll_getLsbD {len : Nat} (pos : 0 < len) (le : len ≤ 42) (bits : List Bool) (v : ShiftReg) {k : Nat}
    (hk : k < len) :
    (shiftAll len bits v).getLsbD k =
      if k + bits.length < len then v.getLsbD (k + bits.length) else bits.getD (k + bits.length - len) false := by
  induction bits generalizing v with
  | nil => simp [hk]
  | cons b bits ih =>
    rw [shiftAll_cons, ih, shiftIn_getLsbD pos le, List.length_cons, ← Nat.add_assoc k]
    rcases Nat.lt_trichotomy (k + bits.length + 1) len with below | top | above
    · rw [if_pos (by omega), if_pos below, if_pos below]
    · rw [if_pos (by omega), if_neg (by omega), if_pos top, if_neg (by omega), top, Nat.sub_self, List.getD_cons_zero]
    · rw [if_neg (by omega), if_neg (by omega),
        show k + bits.length + 1 - len = (k + bits.length - len) + 1 by omega, List.getD_cons_succ]

/-- Nothing stands above the register's length. -/
theorem shiftAll_getLsbD_of_ge {len : Nat} (pos : 0 < len) (le : len ≤ 42) {bits : List Bool} (some : bits ≠ [])
    (v : ShiftReg) {k : Nat} (hk : len ≤ k) : (shiftAll len bits v).getLsbD k = false := by
  obtain ⟨init, b, rfl⟩ := List.eq_nil_or_concat bits |>.resolve_left some
  rw [shiftAll, List.concat_eq_append, List.foldl_append, List.foldl_cons, List.foldl_nil, shiftIn_getLsbD pos le]
  rw [if_neg (by omega), if_neg (by omega)]

/-- As many shifts as the register is long leave the bits shifted in. -/
theorem shiftAll_lsbFirst {len : Nat} (pos : 0 < len) (le : len ≤ 42) (w : BitVec len) (v : ShiftReg) :
    shiftAll len (lsbFirst w) v = w.setWidth 42 := by
  apply BitVec.eq_of_getLsbD_eq
  intro k _
  by_cases hk : k < len
  · rw [shiftAll_getLsbD pos le _ _ hk, lsbFirst_length, if_neg (by omega), Nat.add_sub_cancel,
      List.getD_eq_getElem _ _ (by simpa using hk), lsbFirst_getElem]
    simp
    omega
  · rw [shiftAll_getLsbD_of_ge pos le (List.ne_nil_of_length_pos (by simpa using pos)) v (by omega)]
    simp [BitVec.getLsbD_of_ge w k (by omega)]

/-! What is seen at bit 0. -/

/-- Bit 0 before each of the first `n` shifts of a list. -/
def looks (len n : Nat) (bits : List Bool) (v : ShiftReg) : List Return :=
  (List.range n).map fun k => .tdo ((shiftAll len (bits.take k) v).getLsbD 0)

theorem looks_succ (len n : Nat) (b : Bool) (bits : List Bool) (v : ShiftReg) :
    looks len (n + 1) (b :: bits) v = .tdo (v.getLsbD 0) :: looks len n bits (shiftIn len b v) := by
  simp [looks, List.range_succ_eq_map]

theorem looks_one (len : Nat) (bits : List Bool) (v : ShiftReg) : looks len 1 bits v = [.tdo (v.getLsbD 0)] := rfl

/-- A look before each of as many shifts as the register is long shows its old value (R175). -/
theorem looks_eq_lsbFirst {len : Nat} (pos : 0 < len) (le : len ≤ 42) {bits : List Bool} (length : bits.length = len)
    (w : BitVec len) {v : ShiftReg} (hv : v.setWidth len = w) :
    looks len bits.length bits v = (lsbFirst w).map Return.tdo := by
  rw [looks, lsbFirst, length, List.map_map]
  refine List.map_congr_left fun k hk => congrArg Return.tdo ?_
  have hk := List.mem_range.mp hk
  have taken : (bits.take k).length = k := by simp; omega
  rw [shiftAll_getLsbD pos le _ _ pos, taken, Nat.zero_add, if_pos hk, ← hv]
  simp [hk]

end Sys2Proof.Proofs.ShiftIn
end

section
/-! PROOF. Scans as lists of calls (R104): what TCK cycles and looks at TDO do to the VDTM, one after the other. -/

namespace Sys2Proof.Proofs.Scans

open Sys2Proof Sys2Proof.Machine Sys2Proof.Proofs.TapActions Sys2Proof.Proofs.Vdtm Sys2Proof.Proofs.ShiftIn

/-! Calls that lead from one state to another. -/

/-- The calls `es` lead from `s` to `t`, whatever calls come after them. -/
def Plays (es : List Event) (s t : State) : Prop :=
  ∀ rest, run es.length { s with events := es ++ rest } = .next { t with events := rest }

theorem plays_nil (s : State) : Plays [] s s := fun _ => rfl

theorem Plays.append {es fs : List Event} {s t u : State} (h : Plays es s t) (g : Plays fs t u) :
    Plays (es ++ fs) s u := by
  intro rest
  rw [List.append_assoc, List.length_append, run_add es.length _ _ _ (h (fs ++ rest))]
  exact g rest

theorem Plays.playCalls {es : List Event} {s t : State} (h : Plays es s t) :
    playCalls es s = .next { t with events := [] } := by
  rw [Machine.playCalls, ← h [], List.append_nil]

/-- Between two TCK cycles. -/
structure Idle (s : State) : Prop where
  framer : s.framer = .idle
  low : s.tck = false

theorem plays_getTdo {s : State} (idle : Idle s) : Plays [.getTdo] s (answer (.tdo s.tdo) s) := by
  intro rest
  exact run_succ_of_next (k := 0) (step_getTdo (s := { s with events := .getTdo :: rest }) idle.framer rfl)

/-- A cycle whose action leaves `u`. -/
theorem plays_pulse_of_exec {s u : State} {tms tdi : Bool} (idle : Idle s)
    (action : ∀ es, exec (tapInstr s) { s with tms := tms, tdi := tdi, events := es } = .next { u with events := es })
    (framer : u.framer = .idle) : Plays (pulse tms tdi) s (fallingEdge (finishRisingEdge u)) := by
  intro rest
  exact run_pulse (s := { s with events := pulse tms tdi ++ rest }) (u := { u with events := .setTck false :: rest })
    idle.framer idle.low rfl (action _) framer rfl

/-- A cycle that dispatches nothing. -/
def pulsed (tms tdi : Bool) (s : State) : State := fallingEdge (afterEdge s.dmiRdata { s with tms := tms, tdi := tdi })

theorem plays_pulse {s : State} (tms tdi : Bool) (idle : Idle s)
    (quiet : ¬ (s.tapState = .sUpdateDr ∧ s.ir = irDmi)) : Plays (pulse tms tdi) s (pulsed tms tdi s) := by
  refine plays_pulse_of_exec (u := tapNext { s with tms := tms, tdi := tdi }) idle (fun es => ?_) idle.framer
  rw [tapInstr_of_quiet quiet]
  exact exec_decodeIr (s := { s with tms := tms, tdi := tdi, events := es }) quiet

/-- A cycle that dispatches nothing and does not enter S_RESET, field by field. -/
theorem plays_move {s : State} {next : TapState} (tms tdi : Bool) (idle : Idle s)
    (quiet : ¬ (s.tapState = .sUpdateDr ∧ s.ir = irDmi)) (moves : nextState s.tapState tms = next)
    (stays : next ≠ .sReset) :
    Plays (pulse tms tdi) s
      { s with
        tms := tms, tdi := tdi, ir := tapIr s, shifter := tapShifter { s with tdi := tdi }, tapState := next
        tdo := tdoPolicy next (tapShifter { s with tdi := tdi }) } := by
  have play := plays_pulse tms tdi idle quiet
  subst moves
  simp only [pulsed, afterEdge, fallingEdge, if_neg stays, ← idle.low] at play
  exact play

/-- A cycle taken in a state without an action (R174) moves the TAP and no register. -/
theorem plays_quiet {s : State} {next : TapState} (tms tdi : Bool) (idle : Idle s) (quiet : s.tapState.quiet = true)
    (moves : nextState s.tapState tms = next) (stays : next ≠ .sReset) :
    Plays (pulse tms tdi) s
      { s with tms := tms, tdi := tdi, tapState := next, tdo := tdoPolicy next s.shifter } := by
  have same := tapIr_tapShifter_of_tapState (s := { s with tdi := tdi }) (.inl quiet)
  have play := plays_move tms tdi idle (fun dispatch => by rw [dispatch.1] at quiet; cases quiet) moves stays
  rw [same.2, show tapIr s = s.ir from same.1] at play
  exact play

/-! The ways of a scan to its first shift, and from its last (R140). -/

/-- From S_RUN_IDLE to the first shift of a DR scan: the capture has been made, and TDO shows its bit 0. -/
theorem plays_to_shiftDr {s : State} (idle : Idle s) (start : s.tapState = .sRunIdle) :
    Plays (tmsSeq [true, false, false]) s
      { s with
        tms := false, tdi := false, tapState := .sShiftDr, shifter := captureValue s
        tdo := (captureValue s).getLsbD 0 } := by
  have selectDr := plays_quiet (next := .sSelectDr) true false idle (by rw [start]; rfl) (by rw [start]; rfl) (by decide)
  have captureDr := plays_quiet (s := { s with tms := true, tdi := false, tapState := .sSelectDr, tdo := false })
    (next := .sCaptureDr) false false ⟨idle.framer, idle.low⟩ rfl rfl (by decide)
  have shiftDr := plays_move (s := { s with tms := false, tdi := false, tapState := .sCaptureDr, tdo := false })
    (next := .sShiftDr) false false ⟨idle.framer, idle.low⟩ nofun rfl (by decide)
  exact selectDr.append (captureDr.append shiftDr)

/-- From S_RUN_IDLE to the first shift of an IR scan. -/
theorem plays_to_shiftIr {s : State} (idle : Idle s) (start : s.tapState = .sRunIdle) :
    Plays (tmsSeq [true, true, false, false]) s
      { s with
        tms := false, tdi := false, tapState := .sShiftIr, shifter := captureIrCode s.ir
        tdo := (captureIrCode s.ir).getLsbD 0 } := by
  have selectDr := plays_quiet (next := .sSelectDr) true false idle (by rw [start]; rfl) (by rw [start]; rfl) (by decide)
  have selectIr := plays_quiet (s := { s with tms := true, tdi := false, tapState := .sSelectDr, tdo := false })
    (next := .sSelectIr) true false ⟨idle.framer, idle.low⟩ rfl rfl (by decide)
  have captureIr := plays_quiet (s := { s with tms := true, tdi := false, tapState := .sSelectIr, tdo := false })
    (next := .sCaptureIr) false false ⟨idle.framer, idle.low⟩ rfl rfl (by decide)
  have shiftIr := plays_move (s := { s with tms := false, tdi := false, tapState := .sCaptureIr, tdo := false })
    (next := .sShiftIr) false false ⟨idle.framer, idle.low⟩ nofun rfl (by decide)
  exact selectDr.append (selectIr.append (captureIr.append shiftIr))

/-! Shifts. -/

/-- The TAP shifts a register of `len` bits; a cycle with TMS = 1 leads to `exit`. -/
structure Shifting (len : Nat) (exit : TapState) (s : State) : Prop where
  idle : Idle s
  place : (s.tapState = .sShiftDr ∧ len = drLen s.ir ∧ exit = .sExit1Dr) ∨
    (s.tapState = .sShiftIr ∧ len = wIr ∧ exit = .sExit1Ir ∧ ∀ k, wIr ≤ k → s.shifter.getLsbD k = false)

section
variable {len : Nat} {exit : TapState} {s : State}

theorem Shifting.pos (h : Shifting len exit s) : 0 < len := by
  rcases h.place with ⟨-, rfl, -⟩ | ⟨-, rfl, -⟩
  · rcases drLen_cases s.ir with h | h | h <;> rw [h] <;> decide
  · decide

theorem Shifting.le (h : Shifting len exit s) : len ≤ 42 := by
  rcases h.place with ⟨-, rfl, -⟩ | ⟨-, rfl, -⟩
  · rcases drLen_cases s.ir with h | h | h <;> rw [h] <;> decide
  · decide

/-- The unmasked shift of `ir` (R163) is the masked one while nothing stands above its five bits. -/
theorem shiftIr_eq_shiftIn (b : Bool) (v : ShiftReg) (fits : ∀ k, wIr ≤ k → v.getLsbD k = false) :
    (v >>> 1) ||| (bitAtZero b <<< (wIr - 1)) = shiftIn wIr b v := by
  have masked : v &&& shiftMask wIr = v := by
    apply BitVec.eq_of_getLsbD_eq
    intro k _
    rw [BitVec.getLsbD_and, shiftMask_getLsbD (by decide)]
    by_cases hk : k < wIr
    · simp [hk]
    · simp [fits k (by omega)]
  rw [shiftIn, masked]

theorem Shifting.tapShifter (h : Shifting len exit s) (b : Bool) :
    tapShifter { s with tdi := b } = shiftIn len b s.shifter := by
  rcases h.place with ⟨tap, rfl, -⟩ | ⟨tap, rfl, -, fits⟩
  · simp only [TapActions.tapShifter, tap]
    rfl
  · simp only [TapActions.tapShifter, tap]
    exact shiftIr_eq_shiftIn b s.shifter fits

theorem Shifting.plays (h : Shifting len exit s) {next : TapState} (tms b : Bool)
    (moves : nextState s.tapState tms = next) (stays : next ≠ .sReset) :
    Plays (pulse tms b) s
      { s with
        tms := tms, tdi := b, tapState := next, shifter := shiftIn len b s.shifter
        tdo := tdoPolicy next (shiftIn len b s.shifter) } := by
  have place : s.tapState = .sShiftDr ∨ s.tapState = .sShiftIr := h.place.imp And.left And.left
  have quiet : ¬ (s.tapState = .sUpdateDr ∧ s.ir = irDmi) := fun dispatch => by
    rcases place with h | h <;> rw [h] at dispatch <;> cases dispatch.1
  have play := plays_move tms b h.idle quiet moves stays
  have ir : tapIr s = s.ir := VdtmSteps.tapIr_of_ne (by rcases place with h | h <;> rw [h] <;> decide)
    (by rcases place with h | h <;> rw [h] <;> decide)
  rw [h.tapShifter, ir] at play
  exact play

/-- The state after one shift with TMS = 0. -/
def shifted (len : Nat) (b : Bool) (s : State) : State :=
  { s with
    tms := false, tdi := b, shifter := shiftIn len b s.shifter, tdo := (shiftIn len b s.shifter).getLsbD 0 }

theorem Shifting.plays_shift (h : Shifting len exit s) (b : Bool) : Plays (pulse false b) s (shifted len b s) := by
  have policy : tdoPolicy s.tapState (shiftIn len b s.shifter) = (shiftIn len b s.shifter).getLsbD 0 :=
    if_pos (h.place.imp And.left And.left)
  have play := h.plays (next := s.tapState) false b
    (by rcases h.place with ⟨tap, -⟩ | ⟨tap, -⟩ <;> rw [tap] <;> rfl)
    (by rcases h.place with ⟨tap, -⟩ | ⟨tap, -⟩ <;> rw [tap] <;> decide)
  rw [policy] at play
  exact play

theorem Shifting.shifted (h : Shifting len exit s) (b : Bool) : Shifting len exit (shifted len b s) := by
  refine ⟨⟨h.idle.framer, h.idle.low⟩, h.place.imp id fun ⟨tap, five, leaves, _⟩ => ⟨tap, five, leaves, fun k hk => ?_⟩⟩
  subst five
  exact (shiftIn_getLsbD (by decide) (by decide) b s.shifter k).trans (by rw [if_neg (by omega), if_neg (by omega)])

theorem Shifting.plays_last (h : Shifting len exit s) (b : Bool) :
    Plays (pulse true b) s
      { s with tms := true, tdi := b, tapState := exit, shifter := shiftIn len b s.shifter, tdo := false } := by
  have leaves : exit = .sExit1Dr ∨ exit = .sExit1Ir := h.place.imp (·.2.2) (·.2.2.1)
  have play := h.plays (next := exit) true b
    (by rcases h.place with ⟨tap, -, leaves⟩ | ⟨tap, -, leaves, -⟩ <;> rw [tap, leaves] <;> rfl)
    (by rcases leaves with h | h <;> rw [h] <;> decide)
  have policy : tdoPolicy exit (shiftIn len b s.shifter) = false :=
    if_neg (by rcases leaves with h | h <;> rw [h] <;> decide)
  rw [policy] at play
  exact play

/-- The shifts of a scan, with a look at TDO before each. -/
theorem plays_scanShifts {bits : List Bool} (some : bits ≠ []) (h : Shifting len exit s)
    (tdo : s.tdo = s.shifter.getLsbD 0) :
    ∃ d, Plays (scanShifts bits) s
      { s with
        tms := true, tdi := d, tapState := exit, shifter := shiftAll len bits s.shifter, tdo := false
        returns := s.returns ++ looks len bits.length bits s.shifter } := by
  induction bits generalizing s with
  | nil => exact absurd rfl some
  | cons b bits ih =>
    have look := plays_getTdo h.idle
    have looking : Shifting len exit (answer (.tdo s.tdo) s) := ⟨⟨h.idle.framer, h.idle.low⟩, h.place⟩
    cases bits with
    | nil =>
      refine ⟨b, ?_⟩
      rw [List.length_singleton, looks_one, ← tdo]
      exact look.append (looking.plays_last b)
    | cons c bits =>
      have next := looking.shifted b
      obtain ⟨d, later⟩ := ih (s := Scans.shifted len b (answer (.tdo s.tdo) s)) (by simp) next rfl
      refine ⟨d, ?_⟩
      rw [List.length_cons, looks_succ, List.append_cons s.returns, ← tdo]
      exact look.append ((looking.plays_shift b).append later)

end

end Sys2Proof.Proofs.Scans
end

section
/-! PROOF. What whole scans do (R104, R175, R202, R203, R360, R361). -/

namespace Sys2Proof.Proofs.ScanResults

open Sys2Proof Sys2Proof.Machine Sys2Proof.Proofs.TapActions Sys2Proof.Proofs.Vdtm Sys2Proof.Proofs.ShiftIn
  Sys2Proof.Proofs.Scans

/-! Shifts without an end (R175, R361). -/

section
variable {len : Nat} {exit : TapState} {s : State}

/-- Any number of shifts with TMS = 0. -/
theorem plays_shifts (h : Shifting len exit s) (bits : List Bool) :
    ∃ t, Plays (bits.flatMap (pulse false)) s t ∧ t.tapState = s.tapState ∧ t.ir = s.ir ∧
      t.shifter = shiftAll len bits s.shifter := by
  induction bits generalizing s with
  | nil => exact ⟨s, plays_nil s, rfl, rfl, rfl⟩
  | cons b bits ih =>
    obtain ⟨t, later, tap, ir, shifter⟩ := ih (h.shifted b)
    exact ⟨t, (h.plays_shift b).append later, tap, ir, shifter⟩

/-- Settles O20. -/
theorem shiftsMixOldAndNewBits : Obligations.ShiftsMixOldAndNewBits := by
  unfold Obligations.ShiftsMixOldAndNewBits
  intro s bits framer low tap
  have shifting : Shifting (drLen s.ir) .sExit1Dr s := ⟨⟨framer, low⟩, .inl ⟨tap, rfl, rfl⟩⟩
  obtain ⟨t, plays, tapT, ir, shifter⟩ := plays_shifts shifting bits
  refine ⟨_, plays.playCalls, tapT.trans tap, ir, fun k hk => ?_⟩
  rw [shifter]
  exact shiftAll_getLsbD shifting.pos shifting.le bits s.shifter hk

/-- A look at TDO, and then shifts with a look after each. -/
theorem plays_watchedShifts (h : Shifting len exit s) (tdo : s.tdo = s.shifter.getLsbD 0) (bits : List Bool) :
    ∃ t, Plays (.getTdo :: watchedPulses bits) s t ∧
      t.returns = s.returns ++ looks len (bits.length + 1) bits s.shifter := by
  induction bits generalizing s with
  | nil => exact ⟨_, plays_getTdo h.idle, by rw [tdo]; rfl⟩
  | cons b bits ih =>
    have look := plays_getTdo h.idle
    have looking : Shifting len exit (answer (.tdo s.tdo) s) := ⟨⟨h.idle.framer, h.idle.low⟩, h.place⟩
    obtain ⟨t, later, returns⟩ := ih (looking.shifted b) rfl
    refine ⟨t, look.append ((looking.plays_shift b).append later), ?_⟩
    rw [returns, looks_succ, List.append_cons s.returns, ← tdo]
    rfl

end

/-- Bit 0 before the shift `k`: the old value's bit `k`, or the bit that went in `len` shifts before (R175). -/
theorem looks_eq {len : Nat} (pos : 0 < len) (le : len ≤ 42) {n : Nat} {bits : List Bool}
    (short : n ≤ bits.length + 1) (v : ShiftReg) :
    looks len n bits v =
      (List.range n).map fun k => .tdo (if k < len then v.getLsbD k else bits.getD (k - len) false) := by
  refine List.map_congr_left fun k hk => congrArg Return.tdo ?_
  have hk := List.mem_range.mp hk
  have taken : (bits.take k).length = k := by simp; omega
  rw [shiftAll_getLsbD pos le _ _ pos, taken, Nat.zero_add]
  split
  · rfl
  · rw [List.getD_eq_getElem?_getD, List.getD_eq_getElem?_getD, List.getElem?_take_of_lt (by omega)]

/-- Settles O19: the first cycle captures, and the looks are at bit 0 after it and after each shift that follows. -/
theorem drScanShowsCaptureThenTdi : Obligations.DrScanShowsCaptureThenTdi := by
  unfold Obligations.DrScanShowsCaptureThenTdi
  intro s bits framer low tap
  cases bits with
  | nil => exact ⟨_, (plays_nil s).playCalls, by simp⟩
  | cons b bits =>
    have capture := plays_move (next := .sShiftDr) false b ⟨framer, low⟩
      (fun dispatch => by rw [tap] at dispatch; cases dispatch.1) (by rw [tap]; rfl) (by decide)
    have ir : tapIr s = s.ir := by simp only [tapIr, tap]
    have captured : tapShifter { s with tdi := b } = captureValue s := by simp only [tapShifter, tap]; rfl
    rw [ir, captured] at capture
    have shifting : Shifting (drLen s.ir) .sExit1Dr
        { s with
          tms := false, tdi := b, shifter := captureValue s, tapState := .sShiftDr
          tdo := tdoPolicy .sShiftDr (captureValue s) } := ⟨⟨framer, low⟩, .inl ⟨rfl, rfl, rfl⟩⟩
    obtain ⟨t, watched, returns⟩ := plays_watchedShifts shifting rfl bits
    have plays : Plays (watchedPulses (b :: bits)) s t := capture.append watched
    refine ⟨_, plays.playCalls, returns.trans ?_⟩
    rw [looks_eq shifting.pos shifting.le (by omega)]
    rfl

/-! From the last shift through the update, and back to S_RUN_IDLE. -/

/-- A DR scan up to the update under an instruction that captures `v`: the bits of `w` stand in the shifter and the
captured ones have been seen. -/
theorem plays_drScan_to_update {s : State} (idle : Idle s) (start : s.tapState = .sRunIdle) {len : Nat}
    (length : drLen s.ir = len) (w v : BitVec len) (captures : (captureValue s).setWidth len = v) :
    Plays (tmsSeq [true, false, false] ++ (scanShifts (lsbFirst w) ++ pulse true false)) s
      { s with
        tms := true, tdi := false, tdo := false, tapState := .sUpdateDr, shifter := w.setWidth 42
        returns := s.returns ++ (lsbFirst v).map Return.tdo } := by
  have toShift := plays_to_shiftDr idle start
  have shifting : Shifting len .sExit1Dr
      { s with
        tms := false, tdi := false, tapState := .sShiftDr, shifter := captureValue s
        tdo := (captureValue s).getLsbD 0 } := ⟨⟨idle.framer, idle.low⟩, .inl ⟨rfl, length.symm, rfl⟩⟩
  have some : lsbFirst w ≠ [] := List.ne_nil_of_length_pos (by simpa using shifting.pos)
  obtain ⟨d, shifts⟩ := plays_scanShifts some shifting rfl
  have plays := toShift.append (shifts.append
    (plays_quiet (next := .sUpdateDr) true false ⟨idle.framer, idle.low⟩ rfl rfl (by decide)))
  rw [shiftAll_lsbFirst shifting.pos shifting.le,
    looks_eq_lsbFirst shifting.pos shifting.le (lsbFirst_length w) v captures] at plays
  exact plays

/-- An IR scan up to the update. -/
theorem plays_irScan_to_update {s : State} (idle : Idle s) (start : s.tapState = .sRunIdle) (w : IrCode) :
    Plays (tmsSeq [true, true, false, false] ++ (scanShifts (lsbFirst w) ++ pulse true false)) s
      { s with
        tms := true, tdi := false, tdo := false, tapState := .sUpdateIr, shifter := w.setWidth 42
        returns := s.returns ++ (lsbFirst s.ir).map Return.tdo } := by
  have toShift := plays_to_shiftIr idle start
  have fits : ∀ k, wIr ≤ k → (captureIrCode s.ir).getLsbD k = false := fun k hk => by
    simp [captureIrCode, BitVec.getLsbD_of_ge s.ir k hk]
  have shifting : Shifting 5 .sExit1Ir
      { s with
        tms := false, tdi := false, tapState := .sShiftIr, shifter := captureIrCode s.ir
        tdo := (captureIrCode s.ir).getLsbD 0 } := ⟨⟨idle.framer, idle.low⟩, .inr ⟨rfl, rfl, rfl, fits⟩⟩
  have some : lsbFirst w ≠ [] := lsbFirst_ne_nil w
  obtain ⟨d, shifts⟩ := plays_scanShifts some shifting rfl
  have plays := toShift.append (shifts.append
    (plays_quiet (next := .sUpdateIr) true false ⟨idle.framer, idle.low⟩ rfl rfl (by decide)))
  have captures : (captureIrCode s.ir).setWidth 5 = s.ir := by simp [captureIrCode]
  rw [shiftAll_lsbFirst shifting.pos shifting.le,
    looks_eq_lsbFirst shifting.pos shifting.le (lsbFirst_length w) s.ir captures] at plays
  exact plays

/-- Settles O21: the update takes the five bits that were shifted in. -/
theorem irScanLoadsAndShowsIr : Obligations.IrScanLoadsAndShowsIr := by
  unfold Obligations.IrScanLoadsAndShowsIr
  intro s v framer low start
  have update := plays_irScan_to_update ⟨framer, low⟩ start v
  have back := update.append (plays_move (next := .sRunIdle) false false ⟨framer, low⟩ nofun rfl (by decide))
  have calls : irScan v = (tmsSeq [true, true, false, false] ++ (scanShifts (lsbFirst v) ++ pulse true false)) ++
      pulse false false := by simp [irScan, tmsSeq]
  rw [calls, back.playCalls]
  simp [tapIr, tapShifter, tdoPolicy]

/-! DMI scans. -/

/-- From S_UPDATE_DR with DMI in `ir` back to S_RUN_IDLE: the operation in the shifter is dispatched. -/
theorem plays_dispatch {s u : State} (idle : Idle s) (up : s.tapState = .sUpdateDr) (ir : s.ir = irDmi)
    (action : ∀ es, exec (decodeDmi s.shifter) { s with tms := false, tdi := false, events := es } =
      .next { u with events := es })
    (framer : u.framer = .idle) : Plays (pulse false false) s (fallingEdge (finishRisingEdge u)) := by
  refine plays_pulse_of_exec idle (fun es => ?_) framer
  rw [tapInstr_of_dispatch ⟨up, ir⟩]
  exact action es

/-- The state in which a DMI scan of `w`, begun in `s`, dispatches its operation. -/
def dispatching (w : ShiftReg) (s : State) : State :=
  { s with
    tms := true, tdi := false, tdo := false, tapState := .sUpdateDr, shifter := w
    returns := s.returns ++ (lsbFirst (captureDmi s.dmiRdata)).map Return.tdo }

/-- A DMI scan (R104), by what its operation does to `dmi_rdata`, the answers to come and the upcalls made. -/
theorem plays_dmiScan {s : State} {addr : DmiAddr} {data : Word} {op : BitVec 2} {v : Word} {rest : List UpcallAnswer}
    {calls : List Upcall} (idle : Idle s) (start : s.tapState = .sRunIdle) (ir : s.ir = irDmi)
    (action : ∀ es, exec (decodeDmi (dmiWord addr data op))
        { dispatching (dmiWord addr data op) s with tms := false, events := es } =
      .next { dispatching (dmiWord addr data op) s with
        tms := false, events := es, dmiRdata := v, upcallIn := rest, upcalls := calls }) :
    Plays (dmiScan addr data op) s
      { s with
        shifter := dmiWord addr data op, dmiRdata := v, tms := false, tdi := false, tdo := false
        upcallIn := rest, upcalls := calls
        returns := s.returns ++ (lsbFirst (captureDmi s.dmiRdata)).map Return.tdo } := by
  have length : drLen s.ir = 42 := by rw [ir]; rfl
  have captures : (captureValue s).setWidth 42 = captureDmi s.dmiRdata := by
    simp [captureValue, ir, irBypass, irIdcode, irDtmcs, irDmi]
  have update := plays_drScan_to_update idle start length (dmiWord addr data op) _ captures
  rw [BitVec.setWidth_eq] at update
  let u : State := { dispatching (dmiWord addr data op) s with
    tms := false, dmiRdata := v, upcallIn := rest, upcalls := calls }
  have back := plays_dispatch (s := dispatching (dmiWord addr data op) s) (u := u) ⟨idle.framer, idle.low⟩ rfl ir
    action idle.framer
  have parts : dmiScan addr data op =
      (tmsSeq [true, false, false] ++ (scanShifts (lsbFirst (dmiWord addr data op)) ++ pulse true false)) ++
        pulse false false := by simp [dmiScan, drScan, tmsSeq]
  rw [parts, start, idle.low]
  exact update.append back

theorem decodeDmi_dmiWord_read (addr : DmiAddr) (data : Word) :
    decodeDmi (dmiWord addr data 1#2) = .dmiRead addr data := by
  simp [decodeDmi]

theorem decodeDmi_dmiWord_write (addr : DmiAddr) (data : Word) :
    decodeDmi (dmiWord addr data 2#2) = .dmiWrite addr data := by
  simp [decodeDmi]

theorem decodeDmi_dmiWord_nop (addr : DmiAddr) (data : Word) :
    decodeDmi (dmiWord addr data 0#2) = .dmiNop addr data := by
  simp [decodeDmi]

/-- Settles O22: the operation is dispatched once, in the last cycle of the scan. -/
theorem dmiWriteScanCallsOnce : Obligations.DmiWriteScanCallsOnce := by
  unfold Obligations.DmiWriteScanCallsOnce
  intro s addr data x rest framer low start ir bound answers
  refine (plays_dmiScan ⟨framer, low⟩ start ir fun es => ?_).playCalls
  rw [decodeDmi_dmiWord_write]
  exact DmiAccess.callDmiWrite_returns addr data bound answers

/-- Settles O23: the first scan latches the value, the second captures it. -/
theorem dmiReadAppearsOneScanLater : Obligations.DmiReadAppearsOneScanLater := by
  unfold Obligations.DmiReadAppearsOneScanLater
  intro s addr data x rest framer low start ir bound answers
  have first := plays_dmiScan (v := x) (rest := rest) (calls := s.upcalls ++ [.read addr]) ⟨framer, low⟩ start ir
    fun es => by
      rw [decodeDmi_dmiWord_read addr data]
      exact DmiAccess.callDmiRead_returns addr bound answers
  refine (first.append (plays_dmiScan ⟨framer, low⟩ start ir fun es => ?_)).playCalls
  rw [decodeDmi_dmiWord_nop]
  rfl

end Sys2Proof.Proofs.ScanResults
end

section
/-! PROOF. The grain of R18: the steps of the agents inside one event come to the whole event (R73, R75, R223). -/

namespace Sys2Proof.Proofs.CycleGrain

open Sys2Proof Sys2Proof.Machine Sys2Proof.Proofs.DmiAccess Sys2Proof.Proofs.AccessCalls

/-! A call of the SWD-DMI as a run of cycles. -/

/-- The VDTM waits in `t` as it was in `s`, and nothing has been handed back. -/
structure Waiting (s t : State) : Prop where
  ir : t.ir = s.ir
  shifter : t.shifter = s.shifter
  tapState : t.tapState = s.tapState
  dmiRdata : t.dmiRdata = s.dmiRdata
  tck : t.tck = s.tck
  tms : t.tms = s.tms
  tdi : t.tdi = s.tdi
  tdo : t.tdo = s.tdo
  returns : t.returns = s.returns

theorem Waiting.refl (s : State) : Waiting s s := by constructor <;> rfl

theorem Waiting.trans {s t u : State} (h : Waiting s t) (g : Waiting t u) : Waiting s u where
  ir := g.ir.trans h.ir
  shifter := g.shifter.trans h.shifter
  tapState := g.tapState.trans h.tapState
  dmiRdata := g.dmiRdata.trans h.dmiRdata
  tck := g.tck.trans h.tck
  tms := g.tms.trans h.tms
  tdi := g.tdi.trans h.tdi
  tdo := g.tdo.trans h.tdo
  returns := g.returns.trans h.returns

theorem waiting_of_sameBeyondWire {s t : State} (h : SameBeyondWire s t) (returns : t.returns = s.returns) :
    Waiting s t where
  ir := h.ir
  shifter := h.shifter
  tapState := h.tapState
  dmiRdata := h.dmiRdata
  tck := h.tck
  tms := h.tms
  tdi := h.tdi
  tdo := h.tdo
  returns := returns

/-- Unless the call has ended in `b`, the VDTM waits there as it was in `s`. -/
def StillWaits (s : State) (b : CycleState) : Prop := b.job ≠ none → Waiting s b.state

theorem stillWaits_of_ended {s : State} {b : CycleState} (ended : b.job = none) : StillWaits s b :=
  fun lasts => absurd ended lasts

theorem stillWaits_ite {s : State} {p : Prop} [Decidable p] {b c : CycleState} (h : StillWaits s b)
    (g : StillWaits s c) : StillWaits s (if p then b else c) := by
  split
  · exact h
  · exact g

/-- `n` SWCLK cycles lead from `b` to the end of the call, in `u`; while the call lasts, the VDTM waits. -/
inductive CallRun : Nat → CycleState → State → Prop where
  | done (u : State) : CallRun 0 ⟨u, none⟩ u
  | cycle {n : Nat} {j : SwdJob} {s u : State} (due : j.todo ≠ [])
    (waits : StillWaits s (swdStep j s)) (later : CallRun n (swdStep j s) u) :
    CallRun (n + 1) ⟨s, some j⟩ u

section
variable {n : Nat} {b : CycleState} {u : State}

theorem CallRun.job_ne_none (h : CallRun n b u) (pos : 0 < n) : b.job ≠ none := by
  cases h with
  | done => exact absurd pos (by simp)
  | cycle => simp

theorem CallRun.ends (h : CallRun n b u) : cycleRun n b = .next ⟨u, none⟩ := by
  induction h with
  | done => rfl
  | cycle _ _ _ ih => exact ih

/-- One cycle on the wire for each step. -/
theorem CallRun.wire (h : CallRun n b u) :
    b.state.wire <+: u.wire ∧ u.wire.length = b.state.wire.length + n := by
  induction h with
  | done => exact ⟨⟨[], List.append_nil _⟩, rfl⟩
  | @cycle n j s u due _ _ ih =>
    obtain ⟨c, wire⟩ := swdStep_wire due s
    rw [wire] at ih
    refine ⟨.trans ⟨[c], rfl⟩ ih.1, ih.2.trans ?_⟩
    rw [List.length_append, List.length_singleton, Nat.add_assoc, Nat.add_comm 1]

/-- The states between two cycles. -/
theorem CallRun.between (h : CallRun n b u) {k : Nat} (hk : k < n) :
    ∃ (t : State) (j : SwdJob), cycleRun k b = .next ⟨t, some j⟩ ∧ t.wire.length = b.state.wire.length + k ∧
      t.wire <+: u.wire ∧ Waiting b.state t := by
  induction h generalizing k with
  | done => exact absurd hk (by simp)
  | @cycle n j s u due waits later ih =>
    cases k with
    | zero => exact ⟨s, j, rfl, rfl, (CallRun.cycle due waits later).wire.1, .refl s⟩
    | succ k =>
      obtain ⟨t, i, run, length, sent, waiting⟩ := ih (Nat.lt_of_succ_lt_succ hk)
      obtain ⟨c, wire⟩ := swdStep_wire due s
      rw [wire, List.length_append, List.length_singleton] at length
      exact ⟨t, i, run, by rw [length]; simp only; omega, sent,
        (waits (later.job_ne_none (by omega))).trans waiting⟩

end

/-! A transaction as a run of cycles. -/

theorem waiting_swclkCycle (l : Line) (s : State) : Waiting s (swclkCycle l s) :=
  waiting_of_sameBeyondWire (sameBeyondWire_swclkCycle l s) (swclkCycle_returns l s)

theorem waiting_noteRequest (r : Request) (levels : List Bool) (s : State) : Waiting s (noteRequest r levels s) := by
  refine waiting_of_sameBeyondWire (sameBeyondWire_noteRequest r levels s) ?_
  unfold noteRequest
  split
  · exact noteWrite_returns _ _ _ _ _
  · rfl

/-- An ended call has no transaction under way. -/
theorem job_endRead (c : Caller) (r : Word × State) : (endRead c r).job = none := by cases c <;> rfl

theorem job_endWrite (c : Caller) (s : State) : (endWrite c s).job = none := by cases c <;> rfl

theorem stillWaits_beginStage (c : Caller) (st : Stage) (s : State) : StillWaits s (beginStage c st s) :=
  fun _ => .refl s

theorem stillWaits_orLinkFault {s : State} {next : CycleState} (ack : Ack) (h : StillWaits s next) :
    StillWaits s (orLinkFault ack s next) := stillWaits_ite h (stillWaits_of_ended rfl)

theorem stillWaits_beginPoll (c : Caller) (left : Nat) (s : State) : StillWaits s (beginPoll c left s) := by
  cases left with
  | zero => exact stillWaits_of_ended rfl
  | succ n => exact stillWaits_beginStage c (.poll n) s

/-- What follows a transaction leaves the VDTM waiting, unless it ends the call. -/
theorem stillWaits_afterStage (c : Caller) (st : Stage) (levels : List Bool) (s : State) :
    StillWaits s (afterStage c st levels s) := by
  cases st with
  | preamble | targetsel => exact stillWaits_beginStage c _ s
  | dpidr | abort | selectDp | selectIdr | idrPosted => exact stillWaits_orLinkFault _ (stillWaits_beginStage c _ s)
  | powerUp => exact stillWaits_orLinkFault _ (stillWaits_beginPoll c _ s)
  | poll left =>
    exact stillWaits_orLinkFault _ (stillWaits_ite (stillWaits_beginStage c _ s) (stillWaits_beginPoll c left s))
  | idrRdbuf =>
    exact stillWaits_orLinkFault _ (stillWaits_ite (stillWaits_beginStage c _ s) (stillWaits_of_ended rfl))
  | selectMemAp => exact stillWaits_orLinkFault _ (stillWaits_of_ended rfl)
  | readTar addr =>
    exact stillWaits_ite (fun _ => by constructor <;> rfl) (stillWaits_of_ended (job_endRead c _))
  | readDrw => exact stillWaits_ite (stillWaits_beginStage c _ s) (stillWaits_of_ended (job_endRead c _))
  | readRdbuf => exact stillWaits_of_ended (job_endRead c _)
  | writeTar addr data =>
    exact stillWaits_ite (fun _ => by constructor <;> rfl) (stillWaits_of_ended (job_endWrite c _))
  | writeDrw data => exact stillWaits_of_ended (job_endWrite c _)

/-- The cycles of a transaction, one after the other, and then what follows it. -/
theorem callRun_cycles {c : Caller} {st : Stage} {n : Nat} {u : State} {todo : List Line} (due : todo ≠ [])
    {levels : List Bool} {s : State}
    (later : CallRun n (afterStage c st (levels ++ (swclkCycles todo s).1)
      (noteRequest (st.request s) (levels ++ (swclkCycles todo s).1) (swclkCycles todo s).2)) u) :
    CallRun (n + todo.length) ⟨s, some ⟨c, st, todo, levels⟩⟩ u := by
  induction todo generalizing levels s with
  | nil => exact absurd rfl due
  | cons l rest ih =>
    have moved := waiting_swclkCycle l s
    cases rest with
    | nil =>
      rw [swclkCycles, swclkCycles, List.append_nil] at later
      refine .cycle due (fun lasts => ?_) later
      exact moved.trans ((waiting_noteRequest _ _ _).trans (stillWaits_afterStage _ _ _ _ lasts))
    | cons m rest =>
      have later' := ih (levels := levels ++ levelsIn l s) (s := swclkCycle l s) (by simp)
        (by rw [request_swclkCycle, List.append_assoc]; exact later)
      exact .cycle due (fun _ => moved) later'

/-! The transactions of a call, one after the other. -/

/-- Some number of cycles leads from `b` to the end of the call, in `u`. -/
def Leads (b : CycleState) (u : State) : Prop := ∃ n, CallRun n b u

theorem leads_ended (u : State) : Leads ⟨u, none⟩ u := ⟨0, .done u⟩

theorem leads_stage {c : Caller} {st : Stage} {s u : State}
    (later : Leads (afterStage c st (swclkCycles (st.request s).lines s).1
      (noteRequest (st.request s) (swclkCycles (st.request s).lines s).1 (swclkCycles (st.request s).lines s).2)) u) :
    Leads (beginStage c st s) u := by
  obtain ⟨n, run⟩ := later
  exact ⟨_, callRun_cycles (levels := []) (requestLines_ne_nil _) run⟩

section
variable {c : Caller} {st : Stage} {s u : State} {p : Bool} {a : RegAddr} {d : Word}

/-- A read, and then what follows it. -/
theorem leads_read (request : st.request s = .read p a)
    (later : ∀ levels, ackOf levels = (swdRead p a s).ack → dataOf levels = (swdRead p a s).data →
      Leads (afterStage c st levels (swdRead p a s).state) u) : Leads (beginStage c st s) u := by
  refine leads_stage ?_
  rw [request, swclkCycles_read]
  exact later _ (ackOf_read p a s) (dataOf_read p a s)

/-- A write, and then what follows it. -/
theorem leads_write (request : st.request s = .write p a d)
    (later : ∀ levels, ackOf levels = (swdWrite p a d s).ack →
      Leads (afterStage c st levels (swdWrite p a d s).state) u) :
    Leads (beginStage c st s) u := by
  refine leads_stage ?_
  rw [request, swclkCycles_write, noteRequest_write]
  exact later _ (ackOf_write p a d s)

end

/-! `DmiRead` and `DmiWrite`. -/

/-- What the call leaves when `DmiRead` has returned. -/
theorem leads_endRead (c : Caller) (r : Word × State) : Leads (endRead c r) (endRead c r).state := by
  cases c <;> exact leads_ended _

theorem leads_endWrite (c : Caller) (s : State) : Leads (endWrite c s) (endWrite c s).state := by
  cases c <;> exact leads_ended _

theorem leads_readRdbuf (c : Caller) (s : State) :
    Leads (beginStage c .readRdbuf s)
      (endRead c (if ackIsOk (swdRead false aRdbuf s).ack
        then ((swdRead false aRdbuf s).data, (swdRead false aRdbuf s).state)
        else failRead (swdRead false aRdbuf s).ack (swdRead false aRdbuf s).state)).state := by
  refine leads_read rfl fun levels ack data => ?_
  rw [afterStage, ack, data]
  exact leads_endRead c _

theorem leads_drwRead (c : Caller) (s : State) :
    Leads (beginStage c .readDrw s) (endRead c (drwRead s)).state := by
  refine leads_read rfl fun levels ack _ => ?_
  simp only [afterStage, ack, drwRead]
  split
  · exact leads_readRdbuf c _
  · exact leads_endRead c _

theorem leads_drwWrite (c : Caller) (data : Word) (s : State) :
    Leads (beginStage c (.writeDrw data) s) (endWrite c (drwWrite data s)).state := by
  refine leads_write rfl fun levels ack => ?_
  simp only [afterStage, ack, drwWrite]
  exact leads_endWrite c _

/-- After a miss, `EnsureTar` is the TAR write with its effect on the cache (R301, D12). -/
theorem ensureTar_of_miss {b : Word} {s : State} (miss : tarHit b s = false) :
    ensureTar b s =
      if ackIsOk (swdWrite true aTar b s).ack then
        ⟨(swdWrite true aTar b s).ack, { (swdWrite true aTar b s).state with tarCache := b, tarCacheValid := true }⟩
      else ⟨(swdWrite true aTar b s).ack, { (swdWrite true aTar b s).state with tarCacheValid := false }⟩ := by
  simp [ensureTar, miss]

theorem leads_beginRead (c : Caller) (addr : DmiAddr) (s : State) :
    Leads (beginRead c addr s) (endRead c (dmiReadAccess addr s)).state := by
  cases hit : tarHit (byteAddr addr) s with
  | true =>
    rw [dmiReadAccess_of_holds ((tarHit_iff _ s).mp hit), beginRead, if_pos hit]
    exact leads_drwRead c s
  | false =>
    rw [beginRead, hit, if_neg Bool.false_ne_true, dmiReadAccess_eq, ensureTar_of_miss hit]
    refine leads_write rfl fun levels ack => ?_
    rw [afterStage, ack]
    cases ok : ackIsOk (swdWrite true aTar (byteAddr addr) s).ack with
    | true => simpa only [if_true, ok] using leads_drwRead c _
    | false => simpa [ok] using leads_endRead c _

theorem leads_beginWrite (c : Caller) (addr : DmiAddr) (data : Word) (s : State) :
    Leads (beginWrite c addr data s) (endWrite c (dmiWriteAccess addr data s)).state := by
  cases hit : tarHit (byteAddr addr) s with
  | true =>
    rw [dmiWriteAccess_of_holds data ((tarHit_iff _ s).mp hit), beginWrite, if_pos hit]
    exact leads_drwWrite c data s
  | false =>
    rw [beginWrite, hit, if_neg Bool.false_ne_true, dmiWriteAccess_eq, ensureTar_of_miss hit]
    refine leads_write rfl fun levels ack => ?_
    rw [afterStage, ack]
    cases ok : ackIsOk (swdWrite true aTar (byteAddr addr) s).ack with
    | true => simpa only [if_true, ok] using leads_drwWrite c data _
    | false => simpa [ok] using leads_endWrite c _

/-! `connect`. -/

/-- What a bring-up that has come so far leaves when `connect` returns. -/
def finish (r : LinkResult) : State :=
  match r.cause with
  | none => connectSucceeded r.state
  | some c => connectFailed c r.state

theorem connect_eq_finish (s : State) : connect s = finish (bringUp s) := by
  unfold connect
  generalize bringUp s = r
  rfl

theorem leads_endConnect (cause : Cause) (s : State) : Leads (endConnect cause s) (finish ⟨some cause, s⟩) :=
  leads_ended _

theorem thenStep_checkRead (r : ReadResult) (k : Word → State → LinkResult) (k' : State → LinkResult) :
    (checkRead r k).thenStep k' = checkRead r fun d t => (k d t).thenStep k' := by
  unfold checkRead
  split <;> rfl

theorem thenStep_none (s : State) (k : State → LinkResult) : (⟨none, s⟩ : LinkResult).thenStep k = k s := rfl

theorem thenStep_assoc (r : LinkResult) (k k' : State → LinkResult) :
    (r.thenStep k).thenStep k' = r.thenStep fun s => (k s).thenStep k' := by
  obtain ⟨_ | _, _⟩ := r <;> rfl

theorem thenStep_ite (q : Prop) [Decidable q] (r r' : LinkResult) (k : State → LinkResult) :
    (if q then r else r').thenStep k = if q then r.thenStep k else r'.thenStep k := by
  split <;> rfl

theorem leads_ite {q : Prop} [Decidable q] {b b' : CycleState} {r r' : LinkResult} (h : Leads b (finish r))
    (g : Leads b' (finish r')) : Leads (if q then b else b') (finish (if q then r else r')) := by
  split
  · exact h
  · exact g

section
variable {c : Caller} {st : Stage} {s : State} {p : Bool} {a : RegAddr} {d : Word}

/-- A write of the bring-up whose ACK is tested. -/
theorem leads_checkWrite {next : State → CycleState} {k : State → LinkResult} (request : st.request s = .write p a d)
    (goesOn : ∀ levels t, afterStage c st levels t = orLinkFault (ackOf levels) t (next t))
    (later : ∀ t, Leads (next t) (finish (k t))) :
    Leads (beginStage c st s) (finish ((checkWrite (swdWrite p a d s)).thenStep k)) := by
  refine leads_write request fun levels ack => ?_
  rw [goesOn, ack, orLinkFault, checkWrite]
  split
  · exact later _
  · exact leads_endConnect _ _

/-- A read of the bring-up whose ACK is tested. -/
theorem leads_checkRead {next : Word → State → CycleState} {k : Word → State → LinkResult}
    (request : st.request s = .read p a)
    (goesOn : ∀ levels t, afterStage c st levels t = orLinkFault (ackOf levels) t (next (dataOf levels) t))
    (later : ∀ v t, Leads (next v t) (finish (k v t))) :
    Leads (beginStage c st s) (finish (checkRead (swdRead p a s) k)) := by
  refine leads_read request fun levels ack data => ?_
  rw [goesOn, ack, data, orLinkFault, checkRead]
  split
  · exact later _ _
  · exact leads_endConnect _ _

end

/-! The ten steps, the last first: each with all that comes after it. -/

section
variable (c : Caller)

theorem leads_selectMemAp (s : State) : Leads (beginStage c .selectMemAp s) (finish (stepSelectMemAp s)) := by
  have last := leads_checkWrite (c := c) (st := .selectMemAp) (s := s) (k := fun t => ⟨none, t⟩) rfl (fun _ _ => rfl)
    fun t => leads_ended (connectSucceeded t)
  have same (r : LinkResult) : (r.thenStep fun t => ⟨none, t⟩) = r := by
    obtain ⟨_ | _, _⟩ := r <;> rfl
  rw [same] at last
  exact last

theorem leads_idrRdbuf (s : State) :
    Leads (beginStage c .idrRdbuf s) (finish (checkRead (swdRead false aRdbuf s) fun idr s =>
      if isMemAp idr then stepSelectMemAp s else ⟨some .wrongAp, s⟩)) :=
  leads_checkRead (next := fun idr s => if isMemAp idr then beginStage c .selectMemAp s else endConnect .wrongAp s) rfl
    (fun _ _ => rfl) fun _ t => leads_ite (leads_selectMemAp c t) (leads_endConnect .wrongAp t)

theorem leads_identify (s : State) :
    Leads (beginStage c .selectIdr s) (finish ((stepIdentify s).thenStep stepSelectMemAp)) := by
  simp only [stepIdentify, thenStep_assoc, thenStep_checkRead, thenStep_ite]
  exact leads_checkWrite (next := beginStage c .idrPosted) rfl (fun _ _ => rfl) fun _ =>
    leads_checkRead (next := fun _ => beginStage c .idrRdbuf) rfl (fun _ _ => rfl) fun _ => leads_idrRdbuf c

theorem leads_poll (n : Nat) (s : State) :
    Leads (beginPoll c n s)
      (finish ((pollPowerUp n s).thenStep fun s => (stepIdentify s).thenStep stepSelectMemAp)) := by
  induction n generalizing s with
  | zero => exact leads_endConnect .powerUpTimeout s
  | succ n ih =>
    simp only [pollPowerUp, thenStep_checkRead, thenStep_ite]
    exact leads_checkRead
      (next := fun v s => if poweredUp v then beginStage c .selectIdr s else beginPoll c n s) rfl (fun _ _ => rfl)
      fun _ t => leads_ite (leads_identify c t) (ih t)

/-- Steps 4 to 10. -/
theorem leads_dpidr (s : State) :
    Leads (beginStage c .dpidr s) (finish ((stepDpidr s).thenStep fun s => (stepAbort s).thenStep fun s =>
      (stepSelectDp s).thenStep fun s => (stepPowerUp s).thenStep fun s => (pollPowerUp pwrupAckTimeout s).thenStep
        fun s => (stepIdentify s).thenStep stepSelectMemAp)) := by
  simp only [stepDpidr, stepAbort, stepSelectDp, stepPowerUp, thenStep_checkRead, thenStep_none]
  exact leads_checkRead (next := fun _ => beginStage c .abort) rfl (fun _ _ => rfl) fun _ _ =>
    leads_checkWrite (next := beginStage c .selectDp) rfl (fun _ _ => rfl) fun _ =>
    leads_checkWrite (next := beginStage c .powerUp) rfl (fun _ _ => rfl) fun _ =>
    leads_checkWrite (next := beginPoll c pwrupAckTimeout) rfl (fun _ _ => rfl) fun t =>
    leads_poll c pwrupAckTimeout t

theorem leads_preamble {s u : State}
    (later : Leads (beginStage c (if (stepPreamble s).targetsel = 0#32 then .dpidr else .targetsel) (stepPreamble s)) u) :
    Leads (beginStage c .preamble s) u := by
  refine leads_stage ?_
  rw [show Stage.preamble.request s = .preamble from rfl, swclkCycles_preamble]
  generalize stepPreamble s = t at later ⊢
  exact later

theorem leads_targetsel {s u : State} (later : Leads (beginStage c .dpidr (swdTargetsel s.targetsel s)) u) :
    Leads (beginStage c .targetsel s) u := by
  refine leads_stage ?_
  rw [show Stage.targetsel.request s = .targetsel s.targetsel from rfl, swclkCycles_targetsel]
  exact later

/-- The whole of `connect`, from the preamble on. -/
theorem leads_connect (s : State) : Leads (beginStage c .preamble (stepInitialise s)) (connect s) := by
  rw [connect_eq_finish, bringUp]
  refine leads_preamble c ?_
  generalize stepPreamble (stepInitialise s) = t
  unfold stepTargetsel
  split
  · exact leads_dpidr c t
  · exact leads_targetsel c (leads_dpidr c _)

end

/-! Whole events. -/

section
variable {s : State} {rest : List Event} {addr : DmiAddr} {data : Word}

/-- A rising edge that dispatches a read to the SWD-DMI ends as that call does. -/
theorem step_of_dispatched_read (idle : s.framer = .idle) (low : s.tck = false) (ev : s.events = .setTck true :: rest)
    (op : tapInstr s = .dmiRead addr data) (bound : s.dmiReadBinding = .bridge) :
    step s = .next
      (endRead .risingEdge (dmiReadAccess addr (logUpcall (.read addr) { s with events := rest }))).state := by
  rw [step_rising idle low ev, op, exec_dmiRead, callDmiRead_bridge (s := { s with events := rest }) bound rfl]
  rfl

theorem step_of_dispatched_write (idle : s.framer = .idle) (low : s.tck = false) (ev : s.events = .setTck true :: rest)
    (op : tapInstr s = .dmiWrite addr data) (bound : s.dmiWriteBinding = .bridge) :
    step s = .next
      (endWrite .risingEdge
        (dmiWriteAccess addr data (logUpcall (.write addr data) { s with events := rest }))).state := by
  rw [step_rising idle low ev, op, exec_dmiWrite, callDmiWrite_bridge (s := { s with events := rest }) bound rfl]
  rfl

end

/-- The SWD-DMI is called where the event is a whole call of it: the event then ends as the call does, and the call
begins with the wire as it was and the VDTM waiting. -/
theorem leads_of_swdCall {s : State} {b : CycleState} (call : swdCall s = some b) :
    Waiting s b.state ∧ b.state.wire = s.wire ∧ ∃ u, step s = .next u ∧ Leads b u := by
  unfold swdCall at call
  split at call
  · next idle =>
    split at call
    · next rest ev =>
      cases call
      exact ⟨by constructor <;> rfl, rfl, _, Connect.step_connect idle ev, leads_connect .environment _⟩
    · next addr rest ev =>
      cases call
      exact ⟨by constructor <;> rfl, rfl, _, step_dmiRead idle ev, leads_beginRead .environment addr _⟩
    · next addr data rest ev =>
      cases call
      exact ⟨by constructor <;> rfl, rfl, _, step_dmiWrite idle ev, leads_beginWrite .environment addr data _⟩
    · next rest ev =>
      split at call
      · next low =>
        split at call
        · next addr data op =>
          split at call
          · next bound =>
            cases call
            exact ⟨by constructor <;> rfl, rfl, _, step_of_dispatched_read idle low ev op bound,
              leads_beginRead .risingEdge addr _⟩
          · cases call
        · next addr data op =>
          split at call
          · next bound =>
            cases call
            exact ⟨by constructor <;> rfl, rfl, _, step_of_dispatched_write idle low ev op bound,
              leads_beginWrite .risingEdge addr data _⟩
          · cases call
        · cases call
      · cases call
    · cases call
  · cases call

/-- Settles O60: an event that calls the SWD-DMI is the run of its cycles; any other is one step. -/
theorem cycleStepsMakeTheEvent : Obligations.CycleStepsMakeTheEvent := by
  unfold Obligations.CycleStepsMakeTheEvent
  intro s
  cases call : swdCall s with
  | none =>
    refine ⟨0, ?_, fun _ _ pos => absurd pos (by simp), fun k hk => absurd hk (by simp)⟩
    simp only [cycleRun, cycleStep, call]
    cases step s <;> rfl
  | some b =>
    obtain ⟨waiting, wire, u, event, n, run⟩ := leads_of_swdCall call
    have begins (k : Nat) : cycleRun (k + 1) ⟨s, none⟩ = cycleRun k b := by simp only [cycleRun, cycleStep, call]
    refine ⟨n, ?_, fun v ends _ => ?_, fun k hk => ?_⟩
    · rw [begins, run.ends, event]
      rfl
    · cases event.symm.trans ends
      rw [run.wire.2, wire]
    · obtain ⟨t, j, reached, length, sent, still⟩ := run.between hk
      have frame := waiting.trans still
      refine ⟨t, j, (begins k).trans reached, by rw [length, wire], fun v ends => ?_, frame.ir, frame.shifter,
        frame.tapState, frame.dmiRdata, frame.tck, frame.tms, frame.tdi, frame.tdo, frame.returns⟩
      cases event.symm.trans ends
      exact sent

end Sys2Proof.Proofs.CycleGrain
end
